-- ==== Sys2Proof/Word.lean ====
section
/-! DEFINITION. The plain words of the VH418 (00_scope.md sections 5.1 to 5.5): bytes, board bus words, timebase values,
grid line counts, the four sensor ports and a block of four like things. -/

namespace Sys2Proof

/-- A byte (8 bits). -/
abbrev Byte := BitVec 8

/-- A board bus word (16 bits), also any 2-byte wire field. -/
abbrev Word := BitVec 16

/-- A value of the 32-bit timebase (R1). -/
abbrev Time := BitVec 32

/-- A value of the grid line count N (section 5.5). -/
abbrev LineCount := BitVec 32

/-- The four sensor ports, numbered 0 to 3. -/
inductive PortId where
  | p0 | p1 | p2 | p3
deriving DecidableEq, Repr

/-- The port's number. -/
def PortId.toNat : PortId → Nat
  | .p0 => 0
  | .p1 => 1
  | .p2 => 2
  | .p3 => 3

/-- The port a number names, if it names one. -/
def PortId.ofNat? : Nat → Option PortId
  | 0 => some .p0
  | 1 => some .p1
  | 2 => some .p2
  | 3 => some .p3
  | _ => none

/-- The four ports in order. -/
def PortId.all : List PortId := [.p0, .p1, .p2, .p3]

/-- Four like things, one for each port. -/
structure Quad (α : Type) where
  p0 : α
  p1 : α
  p2 : α
  p3 : α
deriving DecidableEq, Repr

/-- The thing of one port. -/
def Quad.get {α : Type} (q : Quad α) : PortId → α
  | .p0 => q.p0
  | .p1 => q.p1
  | .p2 => q.p2
  | .p3 => q.p3

/-- Replaces the thing of one port. -/
def Quad.set {α : Type} (q : Quad α) (p : PortId) (x : α) : Quad α :=
  match p with
  | .p0 => { q with p0 := x }
  | .p1 => { q with p1 := x }
  | .p2 => { q with p2 := x }
  | .p3 => { q with p3 := x }

/-- The same thing for every port. -/
def Quad.const {α : Type} (x : α) : Quad α := ⟨x, x, x, x⟩

/-- Applies a function to the thing of every port. -/
def Quad.map {α β : Type} (f : α → β) (q : Quad α) : Quad β := ⟨f q.p0, f q.p1, f q.p2, f q.p3⟩

end Sys2Proof
end

