-- ==== Sys2Proof/Syntax.lean ====
section
/-! DEFINITION. The commands the VH418 takes: one constructor of `Instr` for each row of spec/opcode_table.json. Operands
stand at the widths the wire gives them (section 10.7 of 10_management_records.md and R157), so that a value out of range
can be written and is refused by the rule that refuses it. -/

namespace Sys2Proof

/-- A symbol received on a board lane (02_board_lanes_and_line_calls.md section 2.1). -/
inductive LaneSymbol where
  | idle
  | startDelim
  | endDelim
  | data (b : Byte)
  | errored
deriving DecidableEq, Repr

/-- What RESETN does in a POWER_ON event: it is held low, or it rises (or the supply comes up). Section 5.8, R151. -/
inductive ResetPin where
  | heldLow
  | released
deriving DecidableEq, Repr

/-- A board's answer on the board bus (section 8.7). -/
inductive BoardAnswer where
  | ack
  | nak
deriving DecidableEq, Repr

/-- The settings of R22 as SET-PORT carries them on the wire (R157). -/
structure PortFields where
  enable   : Byte
  boardId  : Byte
  lineLen  : Byte
  resume   : Word
  capture  : Byte
  policy   : Byte
  phase    : Word
  target   : Word
  mode     : Byte
  stepMax  : Byte
  window   : Byte
deriving DecidableEq, Repr

/-- One slot entry as STAGE-SLOTS carries it (R70, R73). -/
structure SlotFields where
  source   : Byte
  quota    : Byte
  priority : Byte
deriving DecidableEq, Repr

/-- A FORWARD request's fields (R123, R126). -/
structure ForwardFields where
  tag   : Byte
  board : Byte
  kind  : Byte
  start : Word
  count : Byte
  words : List Word
deriving DecidableEq, Repr

/-- The request kinds of the catalogue (section 10.4), each with its body's fields. -/
inductive Request where
  | identify
  | readStatus
  | clearFlags (numbers : List Byte)
  | setAttnMask (marks : BitVec 64)
  | readCounters (group action : Byte)
  | restart
  | setTiming (imageLines : Word) (delay : Byte) (period lines : Word)
  | readGrid
  | setPort (port : Byte) (fields : PortFields)
  | readPort (port : Byte)
  | setTrim (port : Byte) (trim : Word)
  | stageSlots (first newLen : Byte) (entries : List SlotFields)
  | readSlots (selector : Byte)
  | commitSlots
  | readWeave
  | setLink (ceiling : Byte) (threshold : Word)
  | readLink
  | forward (fields : ForwardFields)
  | fetchReplies (n : Byte)
  | setGate (mode : Byte)
  | setBus (timeout : Word) (mark : Byte)
  | ancMode (mode : Byte) (window : Word)
  | ancLoad (offset : Word) (bytes : List Byte)
  | mailSend (body : List Byte)
  | mailFetch
deriving DecidableEq, Repr

/-- The commands: one constructor for each row of spec/opcode_table.json. -/
inductive Instr where
  | powerOn (resetn : ResetPin) (straps : BitVec 2)
  | predictionLineStart
  | fitWindowExpiry
  | callDue (port : PortId)
  | marker (mark : Byte) (period lines : Word)
  | laneSignalPresent (port : PortId)
  | laneSignalLost (port : PortId)
  | laneSymbol (port : PortId) (symbol : LaneSymbol)
  | cellHandover
  | returnCellCarried
  | failedBlock
  | offer (cls : Byte)
  | start (cls : Byte)
  | health (errors : Word)
  | uplinkIdle
  | segment (marks len : Byte) (payload : List Byte)
  | silenceExpiry
  | trainingExpiry
  | wordSent
  | boardAnswer (answer : BoardAnswer)
  | readWord (word : Word)
  | answerTimeout
  | mgmtByte (byte : Byte)
  | gapExpiry
  | replyEnd
  | unknownKind (kind : Byte) (body : List Byte)
  | identify
  | readStatus
  | clearFlags (numbers : List Byte)
  | setAttnMask (marks : BitVec 64)
  | readCounters (group action : Byte)
  | restart
  | setTiming (imageLines : Word) (delay : Byte) (period lines : Word)
  | readGrid
  | setPort (port : Byte) (fields : PortFields)
  | readPort (port : Byte)
  | setTrim (port : Byte) (trim : Word)
  | stageSlots (first newLen : Byte) (entries : List SlotFields)
  | readSlots (selector : Byte)
  | commitSlots
  | readWeave
  | setLink (ceiling : Byte) (threshold : Word)
  | readLink
  | forward (fields : ForwardFields)
  | fetchReplies (n : Byte)
  | setGate (mode : Byte)
  | setBus (timeout : Word) (mark : Byte)
  | ancMode (mode : Byte) (window : Word)
  | ancLoad (offset : Word) (bytes : List Byte)
  | mailSend (body : List Byte)
  | mailFetch
deriving DecidableEq, Repr

/-- The request a command spells, if its row is a request of the catalogue. -/
def Instr.request? : Instr → Option Request
  | .identify => some .identify
  | .readStatus => some .readStatus
  | .clearFlags ns => some (.clearFlags ns)
  | .setAttnMask m => some (.setAttnMask m)
  | .readCounters g a => some (.readCounters g a)
  | .restart => some .restart
  | .setTiming f d p g => some (.setTiming f d p g)
  | .readGrid => some .readGrid
  | .setPort p f => some (.setPort p f)
  | .readPort p => some (.readPort p)
  | .setTrim p t => some (.setTrim p t)
  | .stageSlots f l es => some (.stageSlots f l es)
  | .readSlots b => some (.readSlots b)
  | .commitSlots => some .commitSlots
  | .readWeave => some .readWeave
  | .setLink c t => some (.setLink c t)
  | .readLink => some .readLink
  | .forward f => some (.forward f)
  | .fetchReplies n => some (.fetchReplies n)
  | .setGate m => some (.setGate m)
  | .setBus t m => some (.setBus t m)
  | .ancMode m w => some (.ancMode m w)
  | .ancLoad o bs => some (.ancLoad o bs)
  | .mailSend b => some (.mailSend b)
  | .mailFetch => some .mailFetch
  | .powerOn _ _ => none
  | .predictionLineStart => none
  | .fitWindowExpiry => none
  | .callDue _ => none
  | .marker _ _ _ => none
  | .laneSignalPresent _ => none
  | .laneSignalLost _ => none
  | .laneSymbol _ _ => none
  | .cellHandover => none
  | .returnCellCarried => none
  | .failedBlock => none
  | .offer _ => none
  | .start _ => none
  | .health _ => none
  | .uplinkIdle => none
  | .segment _ _ _ => none
  | .silenceExpiry => none
  | .trainingExpiry => none
  | .wordSent => none
  | .boardAnswer _ => none
  | .readWord _ => none
  | .answerTimeout => none
  | .mgmtByte _ => none
  | .gapExpiry => none
  | .replyEnd => none
  | .unknownKind _ _ => none

end Sys2Proof
end

