-- ==== Sys2Proof/Config.lean ====
section
/-! DEFINITION. What one part fixes and the specification does not give. -/

namespace Sys2Proof

/-- R158: the unique number is fixed at manufacture and differs from part to part. It has no body: nothing can be proved
of its value (assumption log 1). -/
opaque Config.uniqueNumber : BitVec 64

end Sys2Proof
end

