-- ==== Sys2Proof/Machine/State.lean ====
section
/-! DEFINITION. The state of the VH418 as plain data, block by block in the order of 00_scope.md section 3, and its value
after reset. Numbers the manual counts are Nat; registers it wraps or masks are bit vectors. -/

namespace Sys2Proof.Machine

/-! ### Stores of bytes -/

/-- A store of bytes (a cell pool, the ancillary store) as the list of its non-zero bytes by rising address; an address
that is not listed reads 0x00 (`Memory.wf` in Ops.lean says the form). R142 gives 0x00 for the ancillary store; for the
cell pools it is a DESIGN CHOICE (assumption log 4). -/
abbrev Memory := List Host.Cell

/-! ### Line grid (R2) -/

/-- The grid states, in the order of their codes (R17). -/
inductive GridState where
  | free | locking | locked | holdover
deriving DecidableEq, Repr

/-- A call that has not yet fallen due: its due time and what the call-due notice will carry (R13). -/
structure DueCall where
  time      : Time
  line      : Nat
  tag       : BitVec 2
  callCount : LineCount
  lineStart : Time
deriving DecidableEq, Repr

/-- The Line Grid's items (R2), the call phases it worked out last and the calls still to fall due (R13). -/
structure Grid where
  state      : GridState
  period     : Nat
  lines      : Nat
  nomPeriod  : Nat
  nomLines   : Nat
  imageLines : Nat
  delay      : Nat
  n          : Nat
  lineCount  : LineCount
  tag        : BitVec 2
  frameCount : BitVec 32
  refTime    : Time
  prediction : Time
  missRun    : Nat
  lockRun    : Nat
  frameMiss  : Bool
  phase      : Quad Nat
  due        : Quad (Option DueCall)
deriving DecidableEq, Repr

/-- The line-start notice's values (R11). -/
structure LineNotice where
  n          : Nat
  lineCount  : LineCount
  refTime    : Time
  period     : Nat
  lines      : Nat
  imageLines : Nat
  delay      : Nat
  tag        : BitVec 2
  frameStart : Bool
  realign    : Bool
deriving DecidableEq, Repr

/-- The frame-start notice's values (R12). -/
structure FrameNotice where
  tag        : BitVec 2
  frameCount : BitVec 32
  period     : Nat
  lines      : Nat
  realign    : Bool
deriving DecidableEq, Repr

/-! ### Sensor ports (R18, R22, R31, R33, R39, R40, R58) -/

inductive LaneState where
  | down | acquiring | up
deriving DecidableEq, Repr

inductive CapturePoint where
  | header | tail
deriving DecidableEq, Repr

inductive DamagePolicy where
  | pass | conceal
deriving DecidableEq, Repr

inductive ServoMode where
  | off | track
deriving DecidableEq, Repr

inductive WithholdState where
  | opened | withholding
deriving DecidableEq, Repr

inductive AlignState where
  | unknown | aligned | drifting
deriving DecidableEq, Repr

/-- A port's settings (R22). -/
structure Settings where
  enabled : Bool
  boardId : Nat
  lineLen : Nat
  resume  : Nat
  capture : CapturePoint
  policy  : DamagePolicy
  phase   : Nat
  target  : Nat
  mode    : ServoMode
  stepMax : Nat
  window  : Nat
deriving DecidableEq, Repr

/-- The packet being stored (R36, R37): its cell count, the bytes received since its header, the running check, the check
bytes received, the errored mark, and the matched entry's line-start value from which a TAIL capture is measured (R35). -/
structure Packet where
  cellCount : Nat
  received  : Nat
  running   : Word
  check     : Word
  errored   : Bool
  lineStart : Time
deriving DecidableEq, Repr

/-- The reception states (section 2.5), with what each holds. -/
inductive Reception where
  | waiting
  | header (bytes : List Byte)
  | storing (packet : Packet)
  | discarding
deriving DecidableEq, Repr

/-- A board lane (R18). `signal` is the receiver's report of a signal on the pin. `errorAges` is the symbol error window:
for each errored symbol among the latest 1024, how many symbols came after it. `out` is the call group last given to the
lane's sender (R29; the model's own field). -/
structure Lane where
  signal     : Bool
  state      : LaneState
  acquireRun : Nat
  errorAges  : List Nat
  rx         : Reception
  out        : List LaneSymbol
deriving DecidableEq, Repr

/-- A Call List entry (R31). -/
structure CallEntry where
  tag       : BitVec 2
  line      : Nat
  callCount : LineCount
  lineStart : Time
deriving DecidableEq, Repr

/-- The states of a descriptor, in the order of their codes (R26). -/
inductive DescState where
  | filling | complete | damaged | sending
deriving DecidableEq, Repr

/-- What a completion carries (R37, R48). -/
inductive Completion where
  | complete | damaged
deriving DecidableEq, Repr

/-- A line descriptor (R40). -/
structure Descriptor where
  tag       : BitVec 2
  line      : Nat
  callCount : LineCount
  count     : Nat
  state     : DescState
  result    : Option Completion
  capture   : Option Nat
  truncated : Bool
  cells     : List (Fin 1024)
deriving DecidableEq, Repr

/-- A Line Store (R39): the bytes of its 1024 cells (cell c at addresses 32c to 32c + 31), its ring, oldest first, and the
two reservation figures. A cell is held when a descriptor of the ring lists it, and free otherwise. -/
structure Store where
  pool          : Memory
  ring          : List Descriptor
  reservedCells : Nat
  reservedDescs : Nat
deriving DecidableEq, Repr

/-- A Skew Servo's own items (R58); mode, T, step limit and W stand among the settings. -/
structure Servo where
  trim     : Int
  acc      : Int
  samples  : Nat
  lastMean : Int
  align    : AlignState
deriving DecidableEq, Repr

/-- A sensor port: its settings, lane, call bookkeeping, store and servo. -/
structure Port where
  settings    : Settings
  lane        : Lane
  withhold    : WithholdState
  pendingCall : Bool
  callList    : List CallEntry
  store       : Store
  servo       : Servo
deriving DecidableEq, Repr

/-! ### Weave Table and Weave Engine (R70, R71, R84) -/

/-- What a slot carries (R70). -/
inductive Source where
  | port (p : PortId)
  | anc
  | ret
  | fill
deriving DecidableEq, Repr

/-- A slot entry (R70). -/
structure SlotEntry where
  source   : Source
  quota    : Nat
  priority : Nat
deriving DecidableEq, Repr

/-- The Weave Table (R71). -/
structure WeaveTable where
  staged        : List SlotEntry
  active        : List SlotEntry
  commitPending : Bool
  generation    : Byte
deriving DecidableEq, Repr

/-- The cut point: the cut entry's index and the cells it carries (R81). -/
structure CutPoint where
  index : Nat
  cells : Nat
deriving DecidableEq, Repr

/-- A SENDING mark: the call count of the line being laid, and its lay position (R84). -/
structure SendingMark where
  callCount : LineCount
  lay       : Nat
deriving DecidableEq, Repr

inductive TakeOutcome where
  | none | sent | concealed
deriving DecidableEq, Repr

/-- The slot status codes by name (R96). -/
inductive SlotStatus where
  | line | part | spare | missing | damaged | cut | idle | anc | ret | fill | shed | absent
deriving DecidableEq, Repr

/-- The Weave Engine (R84). `header`, `maintenance` and `handed` are the period in progress: the two overhead cells as
composed at its line start (R95, R116) and the number of its cells handed to the link (R100). -/
structure Engine where
  frameClass  : Option Nat
  capacity    : Option Nat
  shed        : List Bool
  prevShed    : Bool
  cut         : Option CutPoint
  carried     : Bool
  sending     : Quad (Option SendingMark)
  status      : List SlotStatus
  outcome     : Quad TakeOutcome
  header      : List Byte
  maintenance : List Byte
  handed      : Nat
deriving DecidableEq, Repr

/-! ### Triax Link (R105) -/

inductive LinkState where
  | silent | training | up
deriving DecidableEq, Repr

/-- The training answer (R105). -/
inductive TrainingAnswer where
  | none
  | accept (cls : Nat)
  | reject
deriving DecidableEq, Repr

/-- A control record being collected (R117): the header bytes, the count of bytes received, the body bytes of a HOST-MAIL
record, the running check and the record check as received. -/
structure RecordIn where
  header  : List Byte
  count   : Nat
  mail    : List Byte
  running : Word
  check   : Word
deriving DecidableEq, Repr

/-- The control record assembly (R117). -/
inductive Assembly where
  | idle
  | collecting (record : RecordIn)
  | discarding
deriving DecidableEq, Repr

/-- What kind of cell the downlink carries. -/
inductive CellKind where
  | header
  | maintenance
  | slot (index : Nat)
deriving DecidableEq, Repr

/-- A 32-byte cell given to the downlink. -/
structure DownCell where
  kind  : CellKind
  bytes : List Byte
deriving DecidableEq, Repr

/-- The Triax Link (R105). `cell` is the cell it sends while frames run, or none while it sends the frame idle pattern
(R116), and `returnInFlight` says that this cell holds bytes of the return record in progress and is not yet carried (R149);
both are the model's own fields for the pin TXD. -/
structure Link where
  state          : LinkState
  framesRunning  : Bool
  inForce        : Option Nat
  scheduled      : Option Nat
  ceiling        : Nat
  pendingCeiling : Option Nat
  threshold      : Nat
  badRun         : Nat
  cleanRun       : Nat
  lastE          : Nat
  accepted       : Option Nat
  answer         : TrainingAnswer
  trainingExpiry : Option Time
  failureRun     : Nat
  silenceExpiry  : Option Time
  assembly       : Assembly
  cell           : Option DownCell
  returnInFlight : Bool
deriving DecidableEq, Repr

/-! ### Board Bus Controller (R122 to R124) -/

inductive Origin where
  | toLocal | remote
deriving DecidableEq, Repr

/-- A transaction's fields as its originator sent them (R123). `rule` and `level` are the release rule of a remote one. -/
structure Txn where
  origin : Origin
  tag    : Byte
  board  : Byte
  kind   : Byte
  rule   : Byte
  level  : Byte
  start  : Word
  count  : Byte
  words  : List Word
deriving DecidableEq, Repr

/-- The states of a remote entry (section 8.5). -/
inductive EntryState where
  | receiving | ended | void
deriving DecidableEq, Repr

/-- An entry of the Remote Forward Queue (R127, R128): its record's body length, the head bytes in, the first byte of a
word whose second byte is not in, and whether its record is still arriving. -/
structure RemoteEntry where
  bodyLen  : Nat
  head     : List Byte
  txn      : Txn
  half     : Option Byte
  state    : EntryState
  arriving : Bool
deriving DecidableEq, Repr

/-- How the record of a released remote transaction stands (R138); passed for every other transaction. -/
inductive RecordStatus where
  | arriving | passed | failed
deriving DecidableEq, Repr

/-- The bus phases (section 8.7): SELECT; DATA with a word on the bus, or awaiting the next word from the uplink; ANSWER. -/
inductive BusPhase where
  | select | sendingWord | awaitingWord | answer
deriving DecidableEq, Repr

/-- The transaction on the bus with its progress (R134 to R138). -/
structure BusTxn where
  txn    : Txn
  phase  : BusPhase
  sent   : Nat
  acked  : Bool
  reads  : List Word
  half   : Option Byte
  record : RecordStatus
  expiry : Option Time
deriving DecidableEq, Repr

/-- The results of a transaction, in the order of their codes (R124). -/
inductive BusResult where
  | ok | nak | timeout | gated | check | lateCheck | underrun
deriving DecidableEq, Repr

/-- A reply (R124). -/
structure BusReply where
  origin : Origin
  tag    : Byte
  board  : Byte
  kind   : Byte
  result : BusResult
  done   : Nat
  next   : Word
  reads  : List Word
deriving DecidableEq, Repr

/-- The gate modes, in the order of their codes (R133). -/
inductive GateMode where
  | shut | single | opened
deriving DecidableEq, Repr

/-- What the controller puts on the board bus (section 8.7). -/
inductive BusDrive where
  | select (board kind : Byte) (start : Word) (count : Byte)
  | word (w : Word)
  | abort
deriving DecidableEq, Repr

/-- The Board Bus Controller (R122). The bus state is IDLE when `txn` is none, and `txn`'s phase otherwise. `out` is what
the controller put on the bus at the latest event at which it put anything there, in order: a select, a word, an ABORT, or
an ABORT and the select that followed it (the model's own field for the pin BBUS). -/
structure Bus where
  localQueue      : List Txn
  remoteQueue     : List RemoteEntry
  txn             : Option BusTxn
  pendingReply    : Option BusReply
  localReplies    : List BusReply
  remoteReplies   : List BusReply
  gate            : GateMode
  permit          : Bool
  lastServed      : Origin
  answerTimeout   : Nat
  replyMark       : Nat
  grantingStopped : Bool
  out             : List BusDrive
deriving DecidableEq, Repr

/-! ### Ancillary Buffer and Mailboxes (R142, R147) -/

inductive AncMode where
  | stream | repeating
deriving DecidableEq, Repr

/-- The Ancillary Buffer (R142). -/
structure AncBuffer where
  store     : Memory
  mode      : AncMode
  fill      : Nat
  readPoint : Nat
  window    : Nat
  repeatPos : Nat
  allowance : Nat
deriving DecidableEq, Repr

/-- The sources of the RETURN stream (R147). -/
inductive ReturnSource where
  | forwardReply | mail
deriving DecidableEq, Repr

/-- The return record in progress: its source and the cells of it carried so far (R147). -/
structure ReturnRecord where
  source  : ReturnSource
  carried : Nat
deriving DecidableEq, Repr

/-- The Mailboxes (R147). -/
structure Mailboxes where
  inbox      : List (List Byte)
  outbox     : List (List Byte)
  record     : Option ReturnRecord
  lastSource : ReturnSource
  hold       : Bool
deriving DecidableEq, Repr

/-! ### Management Port (R151) -/

/-- The line rates the straps select (section 6). -/
inductive LineRate where
  | baud115200 | baud460800 | baud921600 | baud3000000
deriving DecidableEq, Repr

/-- A complete request record: its kind, its body and its check result (R151, R154). -/
structure ReqRecord where
  kind    : Byte
  body    : List Byte
  checkOk : Bool
deriving DecidableEq, Repr

/-- The receiver (R151, R152). -/
inductive Receiver where
  | hunting
  | receiving (bytes : List Byte)
deriving DecidableEq, Repr

/-- The reply being sent (R151): its record, the bytes of it sent so far, how far the next one has gone out (in parts of
which a byte has `byteParts`), and whether it is the DONE reply of a RESTART, at whose end the reset takes effect (R159). -/
structure ReplyOut where
  record    : List Byte
  sent      : Nat
  progress  : Nat
  thenReset : Bool
deriving DecidableEq, Repr

/-- The Management Port (R151). -/
structure MgmtPort where
  rate      : LineRate
  rx        : Receiver
  gapExpiry : Option Time
  holding   : Option ReqRecord
  reply     : Option ReplyOut
deriving DecidableEq, Repr

/-! ### Flag Unit (R160, R161, R165) -/

/-- A port's counters, in reply order (R165). -/
structure PortCounters where
  linesTaken    : Word
  concealed     : Word
  damaged       : Word
  late          : Word
  stale         : Word
  stray         : Word
  unanswered    : Word
  callsWithheld : Word
  truncated     : Word
  abandoned     : Word
  shedLines     : Word
  cutLines      : Word
deriving DecidableEq, Repr

/-- The link group's counters, in reply order (R165). -/
structure LinkCounters where
  uplinkErrors : Word
  markerMisses : Word
  stepsDown    : Word
  stepsUp      : Word
deriving DecidableEq, Repr

/-- The bus group's counters, in reply order (R165). -/
structure BusCounters where
  transactions  : Word
  timeouts      : Word
  naks          : Word
  remoteDropped : Word
  inboxDropped  : Word
deriving DecidableEq, Repr

/-- The Flag Unit: latched flags and masks as 64 marks with mark 0 at the most significant bit (R163), and the counters. -/
structure FlagUnit where
  flags : BitVec 64
  masks : BitVec 64
  ports : Quad PortCounters
  link  : LinkCounters
  bus   : BusCounters
deriving DecidableEq, Repr

/-! ### The whole part -/

/-- The VH418. `resetLow` is the pin RESETN held low (section 5.8). `pending` is the queue of the commands that wait, first
in, first out (the model's own field). -/
structure State where
  resetLow : Bool
  timebase : Time
  grid     : Grid
  ports    : Quad Port
  table    : WeaveTable
  engine   : Engine
  link     : Link
  bus      : Bus
  anc      : AncBuffer
  mail     : Mailboxes
  mgmt     : MgmtPort
  flagUnit : FlagUnit
  pending  : List Instr
deriving DecidableEq, Repr

/-- Why the part would stop. No command of the specification stops it. -/
inductive Fault where
  /-- An access outside one of the part's stores. No meaning raises it: cell numbers are bounded by their type and
  ancillary positions wrap at 4096, so no command can form such an address. Safe. -/
  | outsideStore (address : Nat)
deriving DecidableEq, Repr

/-- Why a command has no meaning. -/
inductive Refusal where
  /-- Raised by an arm of `exec` whose command has no meaning yet; no arm does so. Safe. -/
  | notModelled (mnemonic : String)
deriving DecidableEq, Repr

/-! ### Reset values -/

/-- R2. -/
def Grid.reset : Grid where
  state := .free
  period := 2640
  lines := 1125
  nomPeriod := 2640
  nomLines := 1125
  imageLines := 1080
  delay := 2
  n := 0
  lineCount := 0
  tag := 0
  frameCount := 0
  refTime := 0
  prediction := 2640
  missRun := 0
  lockRun := 0
  frameMiss := false
  phase := Quad.const 0
  due := Quad.const none

/-- R22; the expected board id equals the port number. -/
def Settings.reset (p : PortId) : Settings where
  enabled := false
  boardId := p.toNat
  lineLen := 75
  resume := 150
  capture := .header
  policy := .conceal
  phase := 0
  target := 400
  mode := .off
  stepMax := 8
  window := 32

/-- R18, with no signal reported. -/
def Lane.reset : Lane where
  signal := false
  state := .down
  acquireRun := 0
  errorAges := []
  rx := .waiting
  out := []

/-- R39. -/
def Store.reset : Store where
  pool := []
  ring := []
  reservedCells := 0
  reservedDescs := 0

/-- R58. -/
def Servo.reset : Servo where
  trim := 0
  acc := 0
  samples := 0
  lastMean := 0
  align := .unknown

/-- R18, R22, R39, R58. -/
def Port.reset (p : PortId) : Port where
  settings := Settings.reset p
  lane := Lane.reset
  withhold := .opened
  pendingCall := false
  callList := []
  store := Store.reset
  servo := Servo.reset

/-- R71. -/
def WeaveTable.reset : WeaveTable where
  staged := [⟨.fill, 1, 0⟩]
  active := [⟨.fill, 1, 0⟩]
  commitPending := false
  generation := 0

/-- R84. -/
def Engine.reset : Engine where
  frameClass := none
  capacity := none
  shed := List.replicate 32 false
  prevShed := false
  cut := none
  carried := false
  sending := Quad.const none
  status := List.replicate 32 .absent
  outcome := Quad.const .none
  header := []
  maintenance := []
  handed := 0

/-- R105. -/
def Link.reset : Link where
  state := .silent
  framesRunning := false
  inForce := none
  scheduled := none
  ceiling := 5
  pendingCeiling := none
  threshold := 4
  badRun := 0
  cleanRun := 0
  lastE := 0
  accepted := none
  answer := .none
  trainingExpiry := none
  failureRun := 0
  silenceExpiry := none
  assembly := .idle
  cell := none
  returnInFlight := false

/-- R122. -/
def Bus.reset : Bus where
  localQueue := []
  remoteQueue := []
  txn := none
  pendingReply := none
  localReplies := []
  remoteReplies := []
  gate := .shut
  permit := false
  lastServed := .remote
  answerTimeout := 100
  replyMark := 1
  grantingStopped := false
  out := []

/-- R142. -/
def AncBuffer.reset : AncBuffer where
  store := []
  mode := .stream
  fill := 0
  readPoint := 0
  window := 256
  repeatPos := 0
  allowance := 0

/-- R147. -/
def Mailboxes.reset : Mailboxes where
  inbox := []
  outbox := []
  record := none
  lastSource := .mail
  hold := false

/-- R151, with the straps at 00. -/
def MgmtPort.reset : MgmtPort where
  rate := .baud115200
  rx := .hunting
  gapExpiry := none
  holding := none
  reply := none

/-- R165: every counter 0. -/
def PortCounters.reset : PortCounters := ⟨0, 0, 0, 0, 0, 0, 0, 0, 0, 0, 0, 0⟩

/-- R160, R161, R165: POWER_ON (mark 0) set, no mask, every counter 0. -/
def FlagUnit.reset : FlagUnit where
  flags := 0x8000000000000000
  masks := 0
  ports := Quad.const PortCounters.reset
  link := ⟨0, 0, 0, 0⟩
  bus := ⟨0, 0, 0, 0, 0⟩

/-- The part right after power-on, RESETN released, straps at 00, no lane signal (assumption log 2), no command waiting. -/
def State.reset : State where
  resetLow := false
  timebase := 0
  grid := Grid.reset
  ports := ⟨Port.reset .p0, Port.reset .p1, Port.reset .p2, Port.reset .p3⟩
  table := WeaveTable.reset
  engine := Engine.reset
  link := Link.reset
  bus := Bus.reset
  anc := AncBuffer.reset
  mail := Mailboxes.reset
  mgmt := MgmtPort.reset
  flagUnit := FlagUnit.reset
  pending := []

end Sys2Proof.Machine
end

