-- ==== Sys2Proof/Machine/Ops.lean ====
section
/-! DEFINITION. The operations every block shares: modular time, byte stores, access to the ports, the credit counts and
HOLD. -/

namespace Sys2Proof.Machine

/-! ### Modular comparison (00_scope.md section 5.5, R1) -/

/-- a is before b: (b − a) mod 2^32 lies from 1 to 2^31 − 1. -/
def before (a b : BitVec 32) : Bool :=
  1 ≤ (b - a).toNat && (b - a).toNat < 2147483648

/-- R4: a marker at `t` fits the prediction when it lies within 8 counts of it, early or late. -/
def fitsPrediction (t prediction : Time) : Bool := (t - (prediction - 8)).toNat ≤ 16

/-- The timebase value `k` counts after `t`. -/
def later (t : Time) (k : Nat) : Time := t + BitVec.ofNat 32 k

/-! ### Byte stores -/

/-- The byte at an address; an address that is not listed reads 0x00. -/
def Memory.read : Memory → Nat → Byte
  | [], _ => 0
  | (k, v) :: rest, a => if k = a then v else Memory.read rest a

/-- Writes one byte and keeps the listed addresses rising and their bytes non-zero. -/
def Memory.write : Memory → Nat → Byte → Memory
  | [], a, b => if b = 0 then [] else [(a, b)]
  | (k, v) :: rest, a, b =>
    if a < k then (if b = 0 then (k, v) :: rest else (a, b) :: (k, v) :: rest)
    else if a = k then (if b = 0 then rest else (a, b) :: rest)
    else (k, v) :: Memory.write rest a b

/-- Writes bytes at consecutive addresses from `a` upwards. -/
def Memory.writeList : Memory → Nat → List Byte → Memory
  | m, _, [] => m
  | m, a, b :: bs => Memory.writeList (Memory.write m a b) (a + 1) bs

/-- Reads `k` bytes at consecutive addresses from `a` upwards. -/
def Memory.readList (m : Memory) (a : Nat) : Nat → List Byte
  | 0 => []
  | k + 1 => Memory.read m a :: Memory.readList m (a + 1) k

/-- Writes bytes at consecutive positions of a ring of `size` addresses, from `a` upwards, wrapping to 0. -/
def Memory.writeRing (size : Nat) : Memory → Nat → List Byte → Memory
  | m, _, [] => m
  | m, a, b :: bs => Memory.writeRing size (Memory.write m (a % size) b) ((a + 1) % size) bs

/-- Reads `k` bytes at consecutive positions of a ring of `size` addresses, from `a` upwards, wrapping to 0. -/
def Memory.readRing (size : Nat) (m : Memory) : Nat → Nat → List Byte
  | _, 0 => []
  | a, k + 1 => Memory.read m (a % size) :: Memory.readRing size m ((a + 1) % size) k

/-- Sets every byte of the named 32-byte cells to 0x00. -/
def Memory.zeroCells (m : Memory) (cells : List (Fin 1024)) : Memory :=
  m.filter fun e => !(cells.any fun c => c.val == e.1 / 32)

/-- The canonical form: addresses strictly rise and no listed byte is 0x00. -/
def Memory.wf (m : Memory) : Bool :=
  decide (m.Pairwise fun x y => x.1 < y.1) && m.all fun e => e.2 != 0

/-! ### Ports -/

/-- The port of a number. -/
def State.port (s : State) (p : PortId) : Port := s.ports.get p

/-- Replaces one port. -/
def State.setPort (s : State) (p : PortId) (x : Port) : State := { s with ports := s.ports.set p x }

/-- Changes one port. -/
def State.onPort (s : State) (p : PortId) (f : Port → Port) : State := s.setPort p (f (s.port p))

/-- Changes the Line Store of a port. -/
def Port.onStore (x : Port) (f : Store → Store) : Port := { x with store := f x.store }

/-- Changes the lane of a port. -/
def Port.onLane (x : Port) (f : Lane → Lane) : Port := { x with lane := f x.lane }

/-- Changes the servo of a port. -/
def Port.onServo (x : Port) (f : Servo → Servo) : Port := { x with servo := f x.servo }

/-- Runs an event of every port in port order. -/
def forPorts (f : PortId → State → State) (s : State) : State := PortId.all.foldl (fun s p => f p s) s

/-! ### Outcomes of a command -/

/-- A command's effect while the part runs. While RESETN is held low the part stays at its reset values and takes nothing
(section 5.8, R151). -/
def whenRunning (s : State) (f : State → State) : Host.Outcome State Fault Refusal :=
  .next (if s.resetLow then s else f s)

/-! ### Credit (R125) and HOLD (R150) -/

/-- The transaction on the bus counts one toward its origin's outstanding transactions. -/
def Bus.onBus (b : Bus) (o : Origin) : Nat :=
  match b.txn with
  | some t => if t.txn.origin = o then 1 else 0
  | none => 0

/-- R125 for LOCAL. A pending-check reply is always remote (R138). -/
def Bus.localOutstanding (b : Bus) : Nat :=
  b.localQueue.length + b.onBus .toLocal + b.localReplies.length

/-- R125 for REMOTE. -/
def Bus.remoteOutstanding (b : Bus) : Nat :=
  b.remoteQueue.length + b.onBus .remote + b.pendingReply.toList.length + b.remoteReplies.length

/-- R150: what HOLD becomes with these counts. -/
def holdAfter (remote inbox : Nat) (held : Bool) : Bool :=
  if 6 ≤ remote ∨ 6 ≤ inbox then true
  else if remote ≤ 2 ∧ inbox ≤ 2 then false
  else held

/-- R150: HOLD is re-evaluated. -/
def evalHold (s : State) : State :=
  { s with mail := { s.mail with hold := holdAfter s.bus.remoteOutstanding s.mail.inbox.length s.mail.hold } }

end Sys2Proof.Machine
end

