-- ==== Sys2Proof/WellFormed.lean ====
section
/-! DEFINITION. Which commands the wires can carry. A number out of its range is well formed (the rule that refuses it
answers it); what is not well formed is a list no wire record has the length for, or an UNKNOWN_KIND whose kind the
catalogue lists. -/

namespace Sys2Proof

/-- The kind codes of section 10.4. -/
def catalogueKinds : List Nat :=
  [0x01, 0x02, 0x03, 0x04, 0x05, 0x06, 0x10, 0x11, 0x18, 0x19, 0x1A, 0x20, 0x21, 0x22, 0x23, 0x28, 0x29,
   0x30, 0x31, 0x32, 0x33, 0x38, 0x39, 0x3A, 0x3B]

/-- A FORWARD body has the length its kind and count imply (R126). -/
def ForwardFields.wellFormed (f : ForwardFields) : Bool :=
  if f.kind = 0 then f.words.length == f.count.toNat && f.words.length ≤ 253 else f.words.isEmpty

/-- A request whose body has the length its kind allows (R155 check 3, R152). -/
def Request.wellFormed : Request → Bool
  | .clearFlags ns => ns.length ≤ 255
  | .stageSlots _ _ es => es.length ≤ 169
  | .forward f => f.wellFormed
  | .ancLoad _ bs => bs.length ≤ 510
  | .mailSend b => b.length ≤ 64
  | .identify => true
  | .readStatus => true
  | .setAttnMask _ => true
  | .readCounters _ _ => true
  | .restart => true
  | .setTiming _ _ _ _ => true
  | .readGrid => true
  | .setPort _ _ => true
  | .readPort _ => true
  | .setTrim _ _ => true
  | .readSlots _ => true
  | .commitSlots => true
  | .readWeave => true
  | .setLink _ _ => true
  | .readLink => true
  | .fetchReplies _ => true
  | .setGate _ => true
  | .setBus _ _ => true
  | .ancMode _ _ => true
  | .mailFetch => true

/-- A command a wire can carry: a SEGMENT block's payload field is 24 bytes (section 10.7), an UNKNOWN_KIND's kind is not
in the catalogue and its body at most 512 bytes (R152), and a request's body has a length its kind allows. -/
def Instr.wellFormed : Instr → Bool
  | .powerOn _ _ => true
  | .predictionLineStart => true
  | .fitWindowExpiry => true
  | .callDue _ => true
  | .marker _ _ _ => true
  | .laneSignalPresent _ => true
  | .laneSignalLost _ => true
  | .laneSymbol _ _ => true
  | .cellHandover => true
  | .returnCellCarried => true
  | .failedBlock => true
  | .offer _ => true
  | .start _ => true
  | .health _ => true
  | .uplinkIdle => true
  | .segment _ _ payload => payload.length == 24
  | .silenceExpiry => true
  | .trainingExpiry => true
  | .wordSent => true
  | .boardAnswer _ => true
  | .readWord _ => true
  | .answerTimeout => true
  | .mgmtByte _ => true
  | .gapExpiry => true
  | .replyEnd => true
  | .unknownKind kind body => !catalogueKinds.contains kind.toNat && body.length ≤ 512
  | .identify => Request.wellFormed .identify
  | .readStatus => Request.wellFormed .readStatus
  | .clearFlags a => Request.wellFormed (.clearFlags a)
  | .setAttnMask a => Request.wellFormed (.setAttnMask a)
  | .readCounters a b => Request.wellFormed (.readCounters a b)
  | .restart => Request.wellFormed .restart
  | .setTiming a b c d => Request.wellFormed (.setTiming a b c d)
  | .readGrid => Request.wellFormed .readGrid
  | .setPort a b => Request.wellFormed (.setPort a b)
  | .readPort a => Request.wellFormed (.readPort a)
  | .setTrim a b => Request.wellFormed (.setTrim a b)
  | .stageSlots a b c => Request.wellFormed (.stageSlots a b c)
  | .readSlots a => Request.wellFormed (.readSlots a)
  | .commitSlots => Request.wellFormed .commitSlots
  | .readWeave => Request.wellFormed .readWeave
  | .setLink a b => Request.wellFormed (.setLink a b)
  | .readLink => Request.wellFormed .readLink
  | .forward a => Request.wellFormed (.forward a)
  | .fetchReplies a => Request.wellFormed (.fetchReplies a)
  | .setGate a => Request.wellFormed (.setGate a)
  | .setBus a b => Request.wellFormed (.setBus a b)
  | .ancMode a b => Request.wellFormed (.ancMode a b)
  | .ancLoad a b => Request.wellFormed (.ancLoad a b)
  | .mailSend a => Request.wellFormed (.mailSend a)
  | .mailFetch => Request.wellFormed .mailFetch

end Sys2Proof
end

