-- ==== Sys2Proof/Machine/Operands.lean ====
section
/-! DEFINITION. The wire forms: byte order (section 5.1), the check (section 5.4), packing of marks (R157), the request and
reply records (section 10.7, R157), the line packet header and call group, the uplink block and the transaction head. -/

namespace Sys2Proof.Machine

/-! ### Byte order: most significant byte first (section 5.1) -/

/-- The two bytes of a 2-byte field. -/
def be16 (w : Word) : List Byte := [w.extractLsb' 8 8, w.extractLsb' 0 8]

/-- The 2-byte field of two bytes. -/
def ofBe16 (h l : Byte) : Word := h ++ l

/-- The four bytes of a 4-byte field. -/
def be32 (w : BitVec 32) : List Byte := be16 (w.extractLsb' 16 16) ++ be16 (w.extractLsb' 0 16)

/-- The eight bytes of an 8-byte field. -/
def be64 (w : BitVec 64) : List Byte := be32 (w.extractLsb' 32 32) ++ be32 (w.extractLsb' 0 32)

/-- The 8-byte field of eight bytes. -/
def ofBe64 (a b c d e f g h : Byte) : BitVec 64 :=
  ofBe16 a b ++ (ofBe16 c d ++ (ofBe16 e f ++ ofBe16 g h))

/-- A number in one byte. -/
def byteOf (k : Nat) : Byte := BitVec.ofNat 8 k

/-- A number in two bytes. -/
def be16n (k : Nat) : List Byte := be16 (BitVec.ofNat 16 k)

/-- A signed number in two bytes, two's complement (R157). -/
def be16i (k : Int) : List Byte := be16 (BitVec.ofInt 16 k)

/-- A mark in one byte. -/
def byteOfBool (b : Bool) : Byte := if b then 1 else 0

/-- A 1-byte field whose "none" is 0xFF (R157). -/
def byteOrNone : Option Nat → Byte
  | some k => byteOf k
  | none => 0xFF

/-- The bytes of 16-bit words. -/
def wordBytes (ws : List Word) : List Byte := ws.flatMap be16

/-- The words of bytes taken in pairs; a last byte alone is dropped. -/
def pairWords : List Byte → List Word
  | h :: l :: rest => ofBe16 h l :: pairWords rest
  | _ => []

/-- A byte from eight marks, the first at bit 7. -/
def packByte (b0 b1 b2 b3 b4 b5 b6 b7 : Bool) : Byte :=
  BitVec.ofBool b0 ++ BitVec.ofBool b1 ++ BitVec.ofBool b2 ++ BitVec.ofBool b3 ++ BitVec.ofBool b4 ++ BitVec.ofBool b5
    ++ BitVec.ofBool b6 ++ BitVec.ofBool b7

/-- A set of marks in bytes, index 0 at the most significant bit of the first byte (R157). -/
def packMarks : List Bool → List Byte
  | b0 :: b1 :: b2 :: b3 :: b4 :: b5 :: b6 :: b7 :: rest => packByte b0 b1 b2 b3 b4 b5 b6 b7 :: packMarks rest
  | _ => []

/-- Two 4-bit codes a byte, the earlier in bits 7 to 4. -/
def packNibbles : List (BitVec 4) → List Byte
  | a :: b :: rest => (a ++ b) :: packNibbles rest
  | _ => []

/-! ### The check (section 5.4) -/

/-- One bit of the check, generator x^16 + x^12 + x^5 + 1. -/
def checkBit (reg : Word) (b : Bool) : Word :=
  if reg.msb != b then (reg <<< 1) ^^^ 0x1021 else reg <<< 1

/-- One byte of the check, most significant bit first. -/
def checkByte (reg : Word) (b : Byte) : Word :=
  [7, 6, 5, 4, 3, 2, 1, 0].foldl (fun r i => checkBit r (b.getLsbD i)) reg

/-- The preset check register. -/
def checkInit : Word := 0xFFFF

/-- The check over bytes. -/
def checkOf (bytes : List Byte) : Word := bytes.foldl checkByte checkInit

/-- Bytes followed by the check over them. -/
def withCheck (bytes : List Byte) : List Byte := bytes ++ be16 (checkOf bytes)

/-- Bytes padded with 0x00 to `k` bytes. -/
def padTo (k : Nat) (bytes : List Byte) : List Byte := bytes ++ List.replicate (k - bytes.length) 0

/-! ### Outcomes and request records (R152, R155, R156, R157; section 10.4) -/

/-- The outcome codes (R156). -/
inductive ReqOutcome where
  | done | check | unknown | length | range | state | busy | full | empty | nofit
deriving DecidableEq, Repr

/-- R156. -/
def ReqOutcome.code : ReqOutcome → Byte
  | .done => 0x00
  | .check => 0x01
  | .unknown => 0x02
  | .length => 0x03
  | .range => 0x04
  | .state => 0x05
  | .busy => 0x06
  | .full => 0x07
  | .empty => 0x08
  | .nofit => 0x09

end Sys2Proof.Machine

namespace Sys2Proof

open Machine

/-- The bytes of a slot entry. -/
def SlotFields.bytes (e : SlotFields) : List Byte := [e.source, e.quota, e.priority]

/-- The kind code of a request (section 10.4). -/
def Request.kind : Request → Byte
  | .identify => 0x01
  | .readStatus => 0x02
  | .clearFlags _ => 0x03
  | .setAttnMask _ => 0x04
  | .readCounters _ _ => 0x05
  | .restart => 0x06
  | .setTiming _ _ _ _ => 0x10
  | .readGrid => 0x11
  | .setPort _ _ => 0x18
  | .readPort _ => 0x19
  | .setTrim _ _ => 0x1A
  | .stageSlots _ _ _ => 0x20
  | .readSlots _ => 0x21
  | .commitSlots => 0x22
  | .readWeave => 0x23
  | .setLink _ _ => 0x28
  | .readLink => 0x29
  | .forward _ => 0x30
  | .fetchReplies _ => 0x31
  | .setGate _ => 0x32
  | .setBus _ _ => 0x33
  | .ancMode _ _ => 0x38
  | .ancLoad _ _ => 0x39
  | .mailSend _ => 0x3A
  | .mailFetch => 0x3B

/-- A SET-PORT body after the port number: the settings in the order of R22 (R157). -/
def PortFields.bytes (f : PortFields) : List Byte :=
  [f.enable, f.boardId, f.lineLen] ++ be16 f.resume ++ [f.capture, f.policy] ++ be16 f.phase ++ be16 f.target
    ++ [f.mode, f.stepMax, f.window]

/-- The body of a request: its fields in the order its rule lists them (R157). -/
def Request.body : Request → List Byte
  | .identify => []
  | .readStatus => []
  | .clearFlags ns => byteOf ns.length :: ns
  | .setAttnMask m => be64 m
  | .readCounters g a => [g, a]
  | .restart => []
  | .setTiming f d p g => be16 f ++ [d] ++ be16 p ++ be16 g
  | .readGrid => []
  | .setPort p f => p :: f.bytes
  | .readPort p => [p]
  | .setTrim p t => p :: be16 t
  | .stageSlots first len es => [first, len, byteOf es.length] ++ es.flatMap SlotFields.bytes
  | .readSlots b => [b]
  | .commitSlots => []
  | .readWeave => []
  | .setLink c t => c :: be16 t
  | .readLink => []
  | .forward f => [f.tag, f.board, f.kind] ++ be16 f.start ++ [f.count] ++ wordBytes f.words
  | .fetchReplies n => [n]
  | .setGate m => [m]
  | .setBus t m => be16 t ++ [m]
  | .ancMode m w => m :: be16 w
  | .ancLoad o bs => be16 o ++ bs
  | .mailSend b => b
  | .mailFetch => []

/-- The record of a request as the receiver hands it on when its check passes. -/
def Request.record (q : Request) : ReqRecord := ⟨q.kind, q.body, true⟩

end Sys2Proof

namespace Sys2Proof.Machine

/-- Slot entries from bytes taken in threes; bytes left over are dropped. -/
def slotTriples : List Byte → List SlotFields
  | a :: b :: c :: rest => ⟨a, b, c⟩ :: slotTriples rest
  | _ => []

/-- A body that must be empty. -/
def emptyBody (q : Request) : List Byte → Option Request
  | [] => some q
  | _ :: _ => none

/-- R164: a count byte k and k flag numbers. Here and below, none is LENGTH (R155 check 3, section 10.4). -/
def parseClearFlags : List Byte → Option Request
  | k :: ns => if ns.length = k.toNat then some (.clearFlags ns) else none
  | [] => none

/-- R163: a mask set of 8 bytes. -/
def parseSetAttnMask : List Byte → Option Request
  | [a, b, c, d, e, f, g, h] => some (.setAttnMask (ofBe64 a b c d e f g h))
  | _ => none

/-- R166. -/
def parseReadCounters : List Byte → Option Request
  | [g, a] => some (.readCounters g a)
  | _ => none

/-- R16: 7 bytes. -/
def parseSetTiming : List Byte → Option Request
  | [fh, fl, d, ph, pl, gh, gl] => some (.setTiming (ofBe16 fh fl) d (ofBe16 ph pl) (ofBe16 gh gl))
  | _ => none

/-- R23: 15 bytes. -/
def parseSetPort : List Byte → Option Request
  | [p, en, bid, len, rh, rl, cap, pol, phh, phl, th, tl, mode, stepMax, win] =>
    some (.setPort p ⟨en, bid, len, ofBe16 rh rl, cap, pol, ofBe16 phh phl, ofBe16 th tl, mode, stepMax, win⟩)
  | _ => none

/-- A 1-byte body. -/
def parseOne (f : Byte → Request) : List Byte → Option Request
  | [b] => some (f b)
  | _ => none

/-- A body of one byte and a 2-byte field. -/
def parseByteWord (f : Byte → Word → Request) : List Byte → Option Request
  | [b, h, l] => some (f b (ofBe16 h l))
  | _ => none

/-- R140: a 2-byte field and one byte. -/
def parseSetBus : List Byte → Option Request
  | [h, l, m] => some (.setBus (ofBe16 h l) m)
  | _ => none

/-- R73: 3 + 3 × entry count. -/
def parseStageSlots : List Byte → Option Request
  | first :: len :: k :: rest =>
    if rest.length = 3 * k.toNat then some (.stageSlots first len (slotTriples rest)) else none
  | _ => none

/-- R126: 6 + 2 × count for a kind code of WRITE, 6 for any other kind code. -/
def parseForward : List Byte → Option Request
  | tag :: board :: kind :: sh :: sl :: count :: rest =>
    if rest.length = (if kind = 0 then 2 * count.toNat else 0)
    then some (.forward ⟨tag, board, kind, ofBe16 sh sl, count, pairWords rest⟩) else none
  | _ => none

/-- R144: 2 to 512 bytes. -/
def parseAncLoad : List Byte → Option Request
  | h :: l :: rest => if rest.length ≤ 510 then some (.ancLoad (ofBe16 h l) rest) else none
  | _ => none

/-- R147: 0 to 64 bytes. -/
def parseMailSend (body : List Byte) : Option Request :=
  if body.length ≤ 64 then some (.mailSend body) else none

/-- The body parser of a kind code of the catalogue (section 10.4), or none for a code not in it. -/
def bodyParser? (kind : Byte) : Option (List Byte → Option Request) :=
  match kind.toNat with
  | 0x01 => some (emptyBody .identify)
  | 0x02 => some (emptyBody .readStatus)
  | 0x03 => some parseClearFlags
  | 0x04 => some parseSetAttnMask
  | 0x05 => some parseReadCounters
  | 0x06 => some (emptyBody .restart)
  | 0x10 => some parseSetTiming
  | 0x11 => some (emptyBody .readGrid)
  | 0x18 => some parseSetPort
  | 0x19 => some (parseOne .readPort)
  | 0x1A => some (parseByteWord .setTrim)
  | 0x20 => some parseStageSlots
  | 0x21 => some (parseOne .readSlots)
  | 0x22 => some (emptyBody .commitSlots)
  | 0x23 => some (emptyBody .readWeave)
  | 0x28 => some (parseByteWord .setLink)
  | 0x29 => some (emptyBody .readLink)
  | 0x30 => some parseForward
  | 0x31 => some (parseOne .fetchReplies)
  | 0x32 => some (parseOne .setGate)
  | 0x33 => some parseSetBus
  | 0x38 => some (parseByteWord .ancMode)
  | 0x39 => some parseAncLoad
  | 0x3A => some parseMailSend
  | 0x3B => some (emptyBody .mailFetch)
  | _ => none

/-- The generic checks (R155), in their order: CHECK, UNKNOWN, LENGTH; else the request the record carries. -/
def parseRecord (r : ReqRecord) : Except ReqOutcome Request :=
  if !r.checkOk then .error .check
  else match bodyParser? r.kind with
    | none => .error .unknown
    | some parse =>
      match parse r.body with
      | none => .error .length
      | some q => .ok q

/-- The bytes of a request record on MRX (section 10.7). -/
def requestBytes (r : ReqRecord) : List Byte :=
  withCheck ([0xC3, r.kind] ++ be16n r.body.length ++ r.body)

/-- The bytes of a reply record (R156, section 10.7). -/
def replyBytes (kind : Byte) (outcome : ReqOutcome) (summary : Word) (body : List Byte) : List Byte :=
  withCheck ([0x3C, kind, outcome.code] ++ be16 summary ++ be16n body.length ++ body)

/-! ### Enumerations on the wire (R157) -/

/-- R70: the source codes 0 to 6. -/
def Source.ofByte? (b : Byte) : Option Source :=
  match b.toNat with
  | 0 => some (.port .p0)
  | 1 => some (.port .p1)
  | 2 => some (.port .p2)
  | 3 => some (.port .p3)
  | 4 => some .anc
  | 5 => some .ret
  | 6 => some .fill
  | _ => none

/-- R70. -/
def Source.code : Source → Byte
  | .port p => byteOf p.toNat
  | .anc => 4
  | .ret => 5
  | .fill => 6

end Sys2Proof.Machine

namespace Sys2Proof

open Machine

/-- R73: a slot entry whose fields lie in range. -/
def SlotFields.entry? (e : SlotFields) : Option SlotEntry :=
  match Source.ofByte? e.source with
  | some src => if 1 ≤ e.quota.toNat ∧ e.quota.toNat ≤ 240 ∧ e.priority.toNat ≤ 3
      then some ⟨src, e.quota.toNat, e.priority.toNat⟩ else none
  | none => none

/-- R22, R157: the settings a SET-PORT body names, if every field lies within its range. -/
def PortFields.settings? (f : PortFields) : Option Settings :=
  if f.enable.toNat ≤ 1 ∧ f.boardId.toNat ≤ 7 ∧ 1 ≤ f.lineLen.toNat ∧ f.lineLen.toNat ≤ 240
      ∧ f.lineLen.toNat ≤ f.resume.toNat ∧ f.resume.toNat ≤ 1024 ∧ f.capture.toNat ≤ 1 ∧ f.policy.toNat ≤ 1
      ∧ f.phase.toNat ≤ 8191 ∧ f.target.toNat ≤ 8191 ∧ f.mode.toNat ≤ 1
      ∧ 1 ≤ f.stepMax.toNat ∧ f.stepMax.toNat ≤ 64 ∧ 4 ≤ f.window.toNat
  then some
    { enabled := f.enable = 1
      boardId := f.boardId.toNat
      lineLen := f.lineLen.toNat
      resume := f.resume.toNat
      capture := if f.capture = 1 then .tail else .header
      policy := if f.policy = 1 then .conceal else .pass
      phase := f.phase.toNat
      target := f.target.toNat
      mode := if f.mode = 1 then .track else .off
      stepMax := f.stepMax.toNat
      window := f.window.toNat }
  else none

end Sys2Proof

namespace Sys2Proof.Machine

/-- The wire form of a slot entry (R74). -/
def SlotEntry.bytes (e : SlotEntry) : List Byte := [e.source.code, byteOf e.quota, byteOf e.priority]

/-- The wire form of the settings, in the order of R22 (R26). -/
def Settings.bytes (x : Settings) : List Byte :=
  [byteOfBool x.enabled, byteOf x.boardId, byteOf x.lineLen] ++ be16n x.resume
    ++ [byteOfBool (x.capture == .tail), byteOfBool (x.policy == .conceal)]
    ++ be16n x.phase ++ be16n x.target
    ++ [byteOfBool (x.mode == .track), byteOf x.stepMax, byteOf x.window]

/-! ### The board lane (section 10.7) -/

/-- The call group of a line call: start delimiter, 4 data bytes, end delimiter. -/
def callGroup (tag : BitVec 2) (line : Nat) : List LaneSymbol :=
  let l : BitVec 12 := BitVec.ofNat 12 line
  let head : List Byte := [tag ++ (0 : BitVec 2) ++ l.extractLsb' 8 4, l.extractLsb' 0 8]
  [LaneSymbol.startDelim] ++ (withCheck head).map LaneSymbol.data ++ [LaneSymbol.endDelim]

/-- A line packet header's four fields (section 2.5). -/
structure PacketHeader where
  boardId : Nat
  tag     : BitVec 2
  line    : Nat
  count   : Nat
deriving DecidableEq, Repr

/-- The fields of the 4 header bytes; bits the layout does not name are not read. -/
def packetHeader (b0 b1 b2 b3 : Byte) : PacketHeader where
  boardId := (b0.extractLsb' 5 3).toNat
  tag := b0.extractLsb' 3 2
  line := (b1.extractLsb' 0 4 ++ b2).toNat
  count := b3.toNat

/-! ### The uplink block (section 10.7) -/

/-- The 30 bytes before the check of a good block that an uplink row stands for; none for the other rows. -/
def uplinkFields : Instr → Option (List Byte)
  | .marker m p g => some (padTo 30 ([0x01, m] ++ be16 p ++ be16 g))
  | .offer k => some (padTo 30 [0x02, k])
  | .start k => some (padTo 30 [0x03, k])
  | .health e => some (padTo 30 (0x04 :: be16 e))
  | .segment m len payload => some (padTo 30 ([0x05, m, len] ++ payload))
  | .uplinkIdle => some (padTo 30 [0x06])
  | _ => none

/-- The row a 32-byte uplink block stands for (R106): FAILED_BLOCK when its check fails, else by its kind code; a kind code
that is not known is handled as UPLINK_IDLE is. -/
def uplinkRow (block : List Byte) : Instr :=
  let fields := block.take 30
  if block.length = 32 ∧ block.drop 30 = be16 (checkOf fields) then
    match fields with
    | k :: rest =>
      match k.toNat, rest with
      | 0x01, m :: ph :: pl :: gh :: gl :: _ => .marker m (ofBe16 ph pl) (ofBe16 gh gl)
      | 0x02, c :: _ => .offer c
      | 0x03, c :: _ => .start c
      | 0x04, h :: l :: _ => .health (ofBe16 h l)
      | 0x05, m :: len :: r => .segment m len (r.take 24)
      | _, _ => .uplinkIdle
    | [] => .failedBlock
  else .failedBlock

/-! ### Transactions on the wire (sections 8.5 and 10.7) -/

/-- The fields of an 8-byte transaction head, with no words in. -/
def txnOfHead : List Byte → Txn
  | [tag, board, kind, rule, level, sh, sl, count] =>
    ⟨.remote, tag, board, kind, rule, level, ofBe16 sh sl, count, []⟩
  | _ => ⟨.remote, 0, 0, 0, 0, 0, 0, 0, []⟩

/-- A transaction writes when its kind code is WRITE (R157: WRITE 0, READ 1). -/
def Txn.isWrite (t : Txn) : Bool := t.kind == 0

/-- A remote transaction's release rule is AT-LEVEL (R157: ON-CHECK 0, AT-LEVEL 1). -/
def Txn.atLevel (t : Txn) : Bool := t.rule == 1

/-- R123: the fields lie within their ranges, the run ends within the address space, and a READ names no board 7. The
release rule is a WRITE's alone, and a local transaction has none. -/
def Txn.wellFormed (t : Txn) : Bool :=
  (t.kind == 0 || t.kind == 1)
    && (t.board.toNat ≤ 3 || t.board == 7)
    && t.start.toNat ≤ 4095 && 1 ≤ t.count.toNat && t.count.toNat ≤ 32
    && t.start.toNat + t.count.toNat ≤ 4096
    && !(t.kind == 1 && t.board == 7)
    && (t.kind == 1 || t.origin == .toLocal || t.rule == 0 || t.rule == 1)

/-- The result codes 0 to 6 (R124). -/
def BusResult.code : BusResult → Byte
  | .ok => 0
  | .nak => 1
  | .timeout => 2
  | .gated => 3
  | .check => 4
  | .lateCheck => 5
  | .underrun => 6

/-- The reply fields of a FORWARD_REPLY return record body (R147). R147 gives it 7 + 2 × words done bytes, and R124 gives a
WRITE's reply no read words whatever its words done: the model sends two bytes for each read word the reply holds, so the
body of a WRITE's reply is 7 bytes long (DEDUCED, assumption log 32). -/
def BusReply.returnBody (r : BusReply) : List Byte :=
  [r.tag, r.board, r.kind, r.result.code, byteOf r.done] ++ be16 r.next ++ wordBytes r.reads

/-- A reply in a FETCH-REPLIES body: the fields of R124 in its order, the origin first (R139; DEDUCED, assumption log 12). -/
def BusReply.fetchBytes (r : BusReply) : List Byte :=
  byteOfBool (r.origin == .remote) :: r.returnBody

end Sys2Proof.Machine
end

