-- ==== Sys2Proof/Machine/Flags.lean ====
section
/-! DEFINITION. The Flag Unit (11_flags_counters_and_attention.md): latched flags, live conditions, masks, ATTN, the status
summary and the counters. -/

namespace Sys2Proof.Machine

/-! ### Latched flags (R160) -/

/-- The seven flags each port has, in the order of their numbers. -/
inductive PortFlag where
  | laneDown | stray | callWithheld | concealed | damaged | trimLimit | drifting
deriving DecidableEq, Repr

/-- The latched flags (R160). -/
inductive Flag where
  | powerOn | restartRefused | mgmtFraming | mgmtOverrun
  | port (p : PortId) (f : PortFlag)
  | markerLost | realigned | gridMismatch | shedding | cut | commitDone | commitDropped
  | linkDown | steppedDown | linkFloor | uplinkCheck
  | busTimeout | busNak | remoteCheck | remoteDropped | gateRefused | inboxDropped
deriving DecidableEq, Repr

/-- Where a port flag stands among its port's seven. -/
def PortFlag.offset : PortFlag → Nat
  | .laneDown => 0
  | .stray => 1
  | .callWithheld => 2
  | .concealed => 3
  | .damaged => 4
  | .trimLimit => 5
  | .drifting => 6

/-- The number of a flag (R160). -/
def Flag.number : Flag → Nat
  | .powerOn => 0
  | .restartRefused => 1
  | .mgmtFraming => 2
  | .mgmtOverrun => 3
  | .port p f => 4 + 7 * p.toNat + f.offset
  | .markerLost => 32
  | .realigned => 33
  | .gridMismatch => 34
  | .shedding => 35
  | .cut => 36
  | .commitDone => 37
  | .commitDropped => 38
  | .linkDown => 39
  | .steppedDown => 40
  | .linkFloor => 41
  | .uplinkCheck => 42
  | .busTimeout => 43
  | .busNak => 44
  | .remoteCheck => 45
  | .remoteDropped => 46
  | .gateRefused => 47
  | .inboxDropped => 48

/-- The set of one mark among 64, mark 0 at the most significant bit (R163). -/
def mark (k : Nat) : BitVec 64 := (0x8000000000000000 : BitVec 64) >>> k

/-- The marks that name a flag or a condition: 0 to 48 and 56 to 58 (R161). -/
def namedMarks : BitVec 64 := 0xFFFFFFFFFFFF80E0

/-- The marks of the latched flags, 0 to 48 (R160). -/
def latchedMarks : BitVec 64 := 0xFFFFFFFFFFFF8000

/-- The marks of the port flags 4 to 31. -/
def portMarks : BitVec 64 := 0x0FFFFFFF00000000

/-- Sets a flag (R160). -/
def State.setFlag (s : State) (f : Flag) : State :=
  { s with flagUnit := { s.flagUnit with flags := s.flagUnit.flags ||| mark f.number } }

/-- Sets a flag when a condition holds. -/
def State.setFlagIf (s : State) (c : Bool) (f : Flag) : State := if c then s.setFlag f else s

/-- Whether a flag is set. -/
def State.hasFlag (s : State) (f : Flag) : Bool := s.flagUnit.flags.getMsbD f.number

/-! ### Counters (R165) -/

/-- A counter after `k` of its events; it stops at 65535. -/
def addSat (c : Word) (k : Nat) : Word :=
  if 65535 ≤ c.toNat + k then 0xFFFF else c + BitVec.ofNat 16 k

/-- A counter after one event. -/
def bump (c : Word) : Word := addSat c 1

/-- Changes a port's counters. -/
def State.countPort (s : State) (p : PortId) (f : PortCounters → PortCounters) : State :=
  { s with flagUnit := { s.flagUnit with ports := s.flagUnit.ports.set p (f (s.flagUnit.ports.get p)) } }

/-- Changes the link group's counters. -/
def State.countLink (s : State) (f : LinkCounters → LinkCounters) : State :=
  { s with flagUnit := { s.flagUnit with link := f s.flagUnit.link } }

/-- Changes the bus group's counters. -/
def State.countBus (s : State) (f : BusCounters → BusCounters) : State :=
  { s with flagUnit := { s.flagUnit with bus := f s.flagUnit.bus } }

/-- A port group's counters in reply order. -/
def PortCounters.values (c : PortCounters) : List Word :=
  [c.linesTaken, c.concealed, c.damaged, c.late, c.stale, c.stray, c.unanswered, c.callsWithheld, c.truncated,
   c.abandoned, c.shedLines, c.cutLines]

/-- The link group's counters in reply order. -/
def LinkCounters.values (c : LinkCounters) : List Word := [c.uplinkErrors, c.markerMisses, c.stepsDown, c.stepsUp]

/-- The bus group's counters in reply order. -/
def BusCounters.values (c : BusCounters) : List Word :=
  [c.transactions, c.timeouts, c.naks, c.remoteDropped, c.inboxDropped]

/-! ### Live conditions, masks and ATTN (R161) -/

/-- REPLIES_WAITING (R139). -/
def State.repliesWaiting (s : State) : Bool := s.bus.replyMark ≤ s.bus.localReplies.length

/-- INBOX_WAITING (R147). -/
def State.inboxWaiting (s : State) : Bool := !s.mail.inbox.isEmpty

/-- The state set: the latched flags 0 to 48 and the live conditions 56 to 58; the other marks are 0 (R163). -/
def State.stateSet (s : State) : BitVec 64 :=
  (s.flagUnit.flags &&& latchedMarks)
    ||| (if s.repliesWaiting then mark 56 else 0)
    ||| (if s.inboxWaiting then mark 57 else 0)
    ||| (if s.table.commitPending then mark 58 else 0)

/-- The pin ATTN: active while an unmasked flag is set or an unmasked condition holds; low while RESETN is low (R161). -/
def State.attn (s : State) : Bool := !s.resetLow && (s.stateSet &&& ~~~s.flagUnit.masks) != 0

/-! ### The status summary (R162, section 10.7) -/

/-- The grid state's code (R17). -/
def GridState.code : GridState → BitVec 2
  | .free => 0
  | .locking => 1
  | .locked => 2
  | .holdover => 3

/-- The link state's code (R105). -/
def LinkState.code : LinkState → BitVec 2
  | .silent => 0
  | .training => 1
  | .up => 2

/-- The gate mode's code (R133). -/
def GateMode.code : GateMode → BitVec 2
  | .shut => 0
  | .single => 1
  | .opened => 2

/-- SHEDDING-in-force: the frame's shed set is not empty (R82, R162). -/
def Engine.sheds (e : Engine) : Bool := e.shed.any id

/-- The status summary of the present instant. -/
def State.summary (s : State) : Word :=
  BitVec.ofBool s.attn
    ++ BitVec.ofBool ((s.flagUnit.flags &&& portMarks) != 0)
    ++ s.grid.state.code
    ++ s.link.state.code
    ++ BitVec.ofBool s.engine.sheds
    ++ BitVec.ofBool s.engine.cut.isSome
    ++ BitVec.ofBool s.table.commitPending
    ++ BitVec.ofBool s.repliesWaiting
    ++ BitVec.ofBool s.inboxWaiting
    ++ BitVec.ofBool (s.hasFlag .powerOn)
    ++ s.bus.gate.code
    ++ BitVec.ofBool s.mail.hold
    ++ (0 : BitVec 1)

end Sys2Proof.Machine
end

