-- ==== Sys2Proof/Machine/Store.lean ====
section
/-! DEFINITION. The Line Stores (03_line_stores.md): reservation, admission, filling, completion, take and release. -/

namespace Sys2Proof.Machine

/-! ### Figures (R44) -/

/-- Cells held: the sum over the ring. -/
def Store.cellsHeld (x : Store) : Nat := (x.ring.map (·.count)).sum

/-- Committed: cells held plus reserved cells. -/
def Store.committed (x : Store) : Nat := x.cellsHeld + x.reservedCells

/-- Slots in use: descriptors plus reserved descriptors. -/
def Store.slotsInUse (x : Store) : Nat := x.ring.length + x.reservedDescs

/-- Effective free (R28, R44). -/
def Store.effectiveFree (x : Store) : Nat := 1024 - x.committed

/-- The descriptor that is FILLING, if there is one. -/
def Store.filling? (x : Store) : Option Descriptor := x.ring.find? fun d => d.state == .filling

/-- The descriptor that is SENDING, if there is one. -/
def Store.sending? (x : Store) : Option Descriptor := x.ring.find? fun d => d.state == .sending

/-! ### Reservation (R43) -/

/-- A call reserves a line's cells and one descriptor. -/
def Store.reserve (x : Store) (lineLen : Nat) : Store :=
  { x with reservedCells := x.reservedCells + lineLen, reservedDescs := x.reservedDescs + 1 }

/-- The reservations of `k` departing entries return. -/
def Store.unreserve (x : Store) (lineLen k : Nat) : Store :=
  { x with reservedCells := x.reservedCells - k * lineLen, reservedDescs := x.reservedDescs - k }

/-! ### Admission and filling (R45, R46, R47) -/

/-- Whether a descriptor of the ring holds the cell. -/
def Store.holds (x : Store) (c : Fin 1024) : Bool := x.ring.any fun d => d.cells.contains c

/-- The first `need` free cells, looking at `fuel` cells from number `c` on. Which free cells an admission takes is not
stated and cannot be seen (R39, R43): lowest number first is a DESIGN CHOICE (assumption log 5). -/
def Store.freeCells (x : Store) : Nat → Nat → Nat → List (Fin 1024)
  | 0, _, _ => []
  | _ + 1, _, 0 => []
  | fuel + 1, c, need + 1 =>
    if x.holds (Fin.ofNat 1024 c) then Store.freeCells x fuel (c + 1) (need + 1)
    else Fin.ofNat 1024 c :: Store.freeCells x fuel (c + 1) need

/-- The descriptor an admission appends (R40, R45). -/
def admitted (e : CallEntry) (truncated : Bool) (capture : Option Nat) (count : Nat)
    (cells : List (Fin 1024)) : Descriptor where
  tag := e.tag
  line := e.line
  callCount := e.callCount
  count := count
  state := .filling
  result := none
  capture := capture
  truncated := truncated
  cells := cells

/-- R45: the matched entry's reservation becomes a FILLING descriptor of `count` zeroed cells at the newest end. -/
def Store.admitLine (x : Store) (e : CallEntry) (lineLen count : Nat) (truncated : Bool) (capture : Option Nat) : Store :=
  let cells := x.freeCells 1024 0 count
  { x.unreserve lineLen 1 with
    pool := x.pool.zeroCells cells
    ring := x.ring ++ [admitted e truncated capture count cells] }

/-- R46: payload byte `b`, counted from 0, goes to byte b mod 32 of cell number floor(b / 32) of the FILLING descriptor,
for every b below 32 × its cell count. -/
def Store.putByte (x : Store) (b : Nat) (v : Byte) : Store :=
  match x.filling? with
  | some d =>
    match d.cells[b / 32]? with
    | some c => if b < 32 * d.count then { x with pool := x.pool.write (c.val * 32 + b % 32) v } else x
    | none => x
  | none => x

/-- Changes the FILLING descriptor. -/
def Store.onFilling (x : Store) (f : Descriptor → Descriptor) : Store :=
  { x with ring := x.ring.map fun d => if d.state = .filling then f d else d }

/-- R47: the tail capture. -/
def Store.setCapture (x : Store) (a : Nat) : Store := x.onFilling fun d => { d with capture := some a }

/-! ### Completion (R48) -/

/-- The state a completion gives. -/
def Completion.descState : Completion → DescState
  | .complete => .complete
  | .damaged => .damaged

/-- A completion marks the FILLING descriptor; without one it is discarded. -/
def Store.complete (x : Store) (c : Completion) : Store :=
  x.onFilling fun d => { d with state := c.descState, result := some c }

/-! ### Take and release (R49 to R55) -/

/-- R49: the oldest descriptor becomes SENDING. -/
def Store.sendOldest (x : Store) : Store :=
  match x.ring with
  | d :: rest => { x with ring := { d with state := .sending } :: rest }
  | [] => x

/-- R50, R53: the oldest descriptor is removed. -/
def Store.dropOldest (x : Store) : Store := { x with ring := x.ring.tail }

/-- R51: the SENDING descriptor is released. -/
def Store.releaseSending (x : Store) : Store := { x with ring := x.ring.filter fun d => d.state != .sending }

/-- R54: the FILLING descriptor is abandoned. -/
def Store.abandonFilling (x : Store) : Store := { x with ring := x.ring.filter fun d => d.state != .filling }

/-- R52: the descriptors whose call count is before the wanted one are removed. -/
def Store.purgeStale (x : Store) (wanted : LineCount) : Store :=
  { x with ring := x.ring.filter fun d => !before d.callCount wanted }

/-- The stale descriptors (R52). -/
def Store.stale (x : Store) (wanted : LineCount) : List Descriptor := x.ring.filter fun d => before d.callCount wanted

/-- R55: the store returns to its reset contents; the bytes of its cells stay. -/
def Store.flush (x : Store) : Store := { x with ring := [], reservedCells := 0, reservedDescs := 0 }

/-- R49: cell `k` of a descriptor's line, in payload order. -/
def Store.lineCell (x : Store) (d : Descriptor) (k : Nat) : List Byte :=
  match d.cells[k]? with
  | some c => x.pool.readList (c.val * 32) 32
  | none => List.replicate 32 0

end Sys2Proof.Machine
end

