-- ==== Sys2Proof/Machine/Servo.lean ====
section
/-! DEFINITION. The Skew Servos (04_skew_servo.md) and the arrival capture they are fed (R14). -/

namespace Sys2Proof.Machine

/-- An integer limited to lo … hi. -/
def clampInt (lo hi x : Int) : Int := if x < lo then lo else if hi < x then hi else x

/-- R14: the arrival capture of a capture at `now` for a line started at `lineStart`, at most 65535. -/
def arrivalCapture (now lineStart : Time) : Nat := min (now - lineStart).toNat 65535

/-- R66: the accumulator is cleared. -/
def Servo.clear (v : Servo) : Servo := { v with acc := 0, samples := 0, align := .unknown }

/-- R61: the mean of an interval, truncated toward zero. -/
def intervalMean (acc : Int) : Int := acc.tdiv 16

/-- R61: the limited step of a mean. -/
def servoStep (stepMax : Nat) (mean : Int) : Int := clampInt (-(stepMax : Int)) stepMax (mean.tdiv 2)

/-- R60: the error of a sample, limited to −2047 … +2047. -/
def sampleError (target capture : Nat) : Int := clampInt (-2047) 2047 ((capture : Int) - target)

/-- R61 to R63: the servo after an interval with sum `acc`. -/
def Servo.endInterval (v : Servo) (x : Settings) (acc : Int) : Servo :=
  let m := intervalMean acc
  { v with
    trim := clampInt (-512) 511 (v.trim - servoStep x.stepMax m)
    align := if m.natAbs ≤ x.window then .aligned else .drifting
    lastMean := m
    acc := 0
    samples := 0 }

/-- R62: an interval end limits the trim. -/
def Servo.hitsLimit (v : Servo) (x : Settings) (acc : Int) : Bool :=
  v.trim - servoStep x.stepMax (intervalMean acc) < -512 || 511 < v.trim - servoStep x.stepMax (intervalMean acc)

/-- R63: an interval end enters DRIFTING. -/
def Servo.entersDrift (v : Servo) (x : Settings) (acc : Int) : Bool :=
  x.window < (intervalMean acc).natAbs && v.align != .drifting

/-- R59, R60: a sample reaches the servo of a port. -/
def servoSample (p : PortId) (capture : Nat) (s : State) : State :=
  let x := (s.port p).settings
  let v := (s.port p).servo
  match x.mode with
  | .off => s
  | .track =>
    let acc := v.acc + sampleError x.target capture
    if v.samples + 1 < 16 then
      s.onPort p fun q => { q with servo := { v with acc := acc, samples := v.samples + 1 } }
    else
      ((s.onPort p fun q => { q with servo := v.endInterval x acc }).setFlagIf (v.hitsLimit x acc) (.port p .trimLimit)
        ).setFlagIf (v.entersDrift x acc) (.port p .drifting)

end Sys2Proof.Machine
end

