-- ==== Sys2Proof/Machine/Lane.lean ====
section
/-! DEFINITION. The Board Lanes and line calls (02_board_lanes_and_line_calls.md): acquisition and loss, the withhold
decision, the Call List, and line packet reception. -/

namespace Sys2Proof.Machine

/-! ### Acquisition and loss (R18 to R21) -/

/-- R19: a signal on a DOWN lane. -/
def Lane.startAcquiring (l : Lane) : Lane := { l with state := .acquiring, acquireRun := 0 }

/-- R19: a symbol received while ACQUIRING. -/
def Lane.acquire (l : Lane) (sym : LaneSymbol) : Lane :=
  match sym with
  | .idle =>
    if l.acquireRun + 1 < 64 then { l with acquireRun := l.acquireRun + 1 }
    else { l with acquireRun := 64, state := .up, errorAges := [], rx := .waiting }
  | _ => { l with acquireRun := 0 }

/-- R20: the error window after one more symbol; the errored symbols older than the latest 1024 leave it. -/
def windowAfter (ages : List Nat) (errored : Bool) : List Nat :=
  let aged := (ages.map (· + 1)).filter (· < 1024)
  if errored then 0 :: aged else aged

/-- R21: a port after the lane's passage from UP to DOWN. -/
def Port.afterLoss (q : Port) : Port :=
  { q with
    callList := []
    store := (q.store.unreserve q.settings.lineLen q.callList.length).abandonFilling
    lane := { q.lane with state := .down, acquireRun := 0, rx := .waiting }
    servo := q.servo.clear }

/-- R20, R21, R54: the lane is lost. -/
def laneLoss (p : PortId) (s : State) : State :=
  let s1 := if (s.port p).store.filling?.isSome then s.countPort p fun c => { c with abandoned := bump c.abandoned } else s
  (s1.onPort p Port.afterLoss).setFlag (.port p .laneDown)

/-- R20: after an error-run loss a signal that is still present moves the lane on to ACQUIRING. -/
def reacquire (p : PortId) (s : State) : State :=
  if (s.port p).lane.signal then s.onPort p fun q => q.onLane Lane.startAcquiring else s

/-! ### Line calls (R27 to R30) -/

/-- R28: the three conditions under which an OPEN port withholds a call. -/
def Port.lacksRoom (q : Port) : Bool :=
  q.store.effectiveFree < q.settings.lineLen || 32 ≤ q.store.slotsInUse || 16 ≤ q.callList.length

/-- R28: the three conditions under which a WITHHOLDING port issues a call again. -/
def Port.maySpeakAgain (q : Port) : Bool :=
  q.settings.resume ≤ q.store.effectiveFree && q.store.slotsInUse < 32 && q.callList.length < 16

/-- R28: whether the port issues a call that falls due. -/
def Port.issues (q : Port) : Bool :=
  match q.withhold with
  | .opened => !q.lacksRoom
  | .withholding => q.maySpeakAgain

/-- R29: the entry of an issued call. -/
def DueCall.entry (d : DueCall) : CallEntry := ⟨d.tag, d.line, d.callCount, d.lineStart⟩

/-- R29: the port after it issues a call; R28: it is OPEN. -/
def Port.issue (q : Port) (d : DueCall) : Port :=
  { q with
    withhold := .opened
    callList := q.callList ++ [d.entry]
    store := q.store.reserve q.settings.lineLen
    lane := { q.lane with out := callGroup d.tag d.line } }

/-- A withheld or abandoned call is counted and flagged (R28, R30). -/
def countWithheld (p : PortId) (s : State) : State :=
  (s.countPort p fun c => { c with callsWithheld := bump c.callsWithheld }).setFlag (.port p .callWithheld)

/-- R27, R28: a call-due notice reaches the port. -/
def callNotice (p : PortId) (d : DueCall) (s : State) : State :=
  let s1 := s.onPort p fun q => { q with pendingCall := false }
  let q := s1.port p
  if q.settings.enabled && q.lane.state == .up then
    if q.issues then s1.onPort p fun q => q.issue d
    else countWithheld p (s1.onPort p fun q => { q with withhold := .withholding })
  else s1

/-- R13: a call of the grid falls due: the grid hands it over and holds it no more. -/
def deliverCall (p : PortId) (s : State) : State :=
  match s.grid.due.get p with
  | some d => callNotice p d { s with grid := { s.grid with due := s.grid.due.set p none } }
  | none => s

/-- R27, R30, R66, R67: a line-start notice reaches a port's lane and servo. -/
def portNotice (nt : LineNotice) (p : PortId) (s : State) : State :=
  let q := s.port p
  let s1 :=
    if nt.realign && q.pendingCall && q.settings.enabled && q.lane.state == .up then countWithheld p s else s
  let s2 := if nt.realign then s1.onPort p fun q => q.onServo Servo.clear else s1
  if nt.n < nt.imageLines then s2.onPort p fun q => { q with pendingCall := true } else s2

/-! ### Reception (R33 to R38) -/

/-- Sets a port's reception state. -/
def setRx (p : PortId) (rx : Reception) (s : State) : State :=
  s.onPort p fun q => q.onLane fun l => { l with rx := rx }

/-- R33: a start delimiter begins a packet. -/
def beginPacket (p : PortId) (s : State) : State :=
  setRx p (if (s.port p).settings.enabled then .header [] else .discarding) s

/-- R34: a stray is counted and flagged. -/
def countStray (p : PortId) (s : State) : State :=
  (s.countPort p fun c => { c with stray := bump c.stray }).setFlag (.port p .stray)

/-- R34: the header fails its validation. -/
def PacketHeader.invalid (h : PacketHeader) (boardId imageLines : Nat) : Bool :=
  h.boardId != boardId || h.count == 0 || 240 < h.count || imageLines ≤ h.line

/-- R34: an entry that the header matches. -/
def CallEntry.matchesHeader (e : CallEntry) (h : PacketHeader) : Bool := e.tag == h.tag && e.line == h.line

/-- R34, R35, R45: the header matched `e`, with `older` entries before it and `newer` after it. -/
def matchHeader (p : PortId) (h : PacketHeader) (bytes : List Byte) (older : List CallEntry) (e : CallEntry)
    (newer : List CallEntry) (s : State) : State :=
  let x := (s.port p).settings
  let a := arrivalCapture s.timebase e.lineStart
  let cut := x.lineLen < h.count
  let packet : Packet := ⟨h.count, 0, checkOf bytes, 0, false, e.lineStart⟩
  let s1 := s.countPort p fun c =>
    { c with unanswered := addSat c.unanswered older.length, truncated := if cut then bump c.truncated else c.truncated }
  let s2 := s1.onPort p fun q =>
    { q with
      callList := newer
      store := (q.store.unreserve x.lineLen older.length).admitLine e x.lineLen (min h.count x.lineLen) cut
        (if x.capture = .header then some a else none)
      lane := { q.lane with rx := .storing packet } }
  if x.capture = .header then servoSample p a s2 else s2

/-- R34: the header is complete. -/
def headerDone (p : PortId) (bytes : List Byte) (h : PacketHeader) (s : State) : State :=
  let q := s.port p
  let missed := fun e : CallEntry => !e.matchesHeader h
  if h.invalid q.settings.boardId s.grid.imageLines then setRx p .discarding (countStray p s)
  else match q.callList.dropWhile missed with
    | [] => setRx p .discarding (countStray p s)
    | e :: newer => matchHeader p h bytes (q.callList.takeWhile missed) e newer s

/-- R33: a data byte in HEADER. -/
def headerByte (p : PortId) (bytes : List Byte) (b : Byte) (s : State) : State :=
  match bytes ++ [b] with
  | [b0, b1, b2, b3] => headerDone p [b0, b1, b2, b3] (packetHeader b0 b1 b2 b3) s
  | bs => setRx p (.header bs) s

/-- R36: the packet after one more byte, its errored mark set by an errored symbol in payload or check. R36 takes an errored
symbol in payload or check as the byte 0x00 and says nothing of one after the second check byte: it counts as a byte there
too, so that its packet is not well framed, and sets no mark (DESIGN CHOICE, assumption log 34). -/
def Packet.afterByte (k : Packet) (b : Byte) (errored : Bool) : Packet :=
  let payload := 32 * k.cellCount
  { k with
    received := min (k.received + 1) (payload + 3)
    running := if k.received < payload then checkByte k.running b else k.running
    check := if payload ≤ k.received ∧ k.received < payload + 2 then (k.check <<< 8) ||| b.zeroExtend 16 else k.check
    errored := k.errored || (errored && k.received < payload + 2) }

/-- R35: the tail capture at the last byte of the last payload cell. -/
def tailCapture (p : PortId) (k : Packet) (s : State) : State :=
  let a := arrivalCapture s.timebase k.lineStart
  servoSample p a (s.onPort p fun q => q.onStore fun x => x.setCapture a)

/-- R35, R36, R46: a byte of a packet being stored; an errored symbol is the byte 0x00. -/
def storeByte (p : PortId) (k : Packet) (b : Byte) (errored : Bool) (s : State) : State :=
  let s1 := setRx p (.storing (k.afterByte b errored)) s
  let s2 := if k.received < 32 * k.cellCount then s1.onPort p fun q => q.onStore fun x => x.putByte k.received b else s1
  if k.received + 1 = 32 * k.cellCount ∧ (s.port p).settings.capture = .tail ∧ (s.port p).store.filling?.isSome
  then tailCapture p k s2 else s2

/-- R37: whether the packet completes as COMPLETE. -/
def Packet.good (k : Packet) (truncated : Bool) : Bool :=
  k.received == 32 * k.cellCount + 2 && k.running == k.check && !k.errored && !truncated

/-- R37, R48: a delimiter ends a packet being stored. -/
def endPacket (p : PortId) (k : Packet) (s : State) : State :=
  let truncated := ((s.port p).store.filling?.map (·.truncated)).getD false
  s.onPort p fun q => q.onStore fun x => x.complete (if k.good truncated then .complete else .damaged)

/-- R33, R36, R37: reception acts on a symbol of an UP lane. -/
def receive (p : PortId) (sym : LaneSymbol) (s : State) : State :=
  match (s.port p).lane.rx with
  | .waiting =>
    match sym with
    | .startDelim => beginPacket p s
    | .idle => s
    | .endDelim => s
    | .data _ => s
    | .errored => s
  | .header bytes =>
    match sym with
    | .idle => s
    | .data b => headerByte p bytes b s
    | .errored => setRx p .discarding (countStray p s)
    | .startDelim => setRx p (.header []) (countStray p s)
    | .endDelim => setRx p .waiting (countStray p s)
  | .discarding =>
    match sym with
    | .startDelim => beginPacket p s
    | .endDelim => setRx p .waiting s
    | .idle => s
    | .data _ => s
    | .errored => s
  | .storing k =>
    match sym with
    | .idle => s
    | .data b => storeByte p k b false s
    | .errored => storeByte p k 0 true s
    | .endDelim => setRx p .waiting (endPacket p k s)
    | .startDelim => setRx p (.header []) (endPacket p k s)

/-- R20, R33: a symbol of an UP lane enters the error window and loses the lane, or goes on to reception. A symbol that
loses the lane goes no further (DEDUCED, assumption log 6). -/
def upSymbol (p : PortId) (sym : LaneSymbol) (s : State) : State :=
  let errored := sym == .errored
  let ages := windowAfter (s.port p).lane.errorAges errored
  let s1 := s.onPort p fun q => q.onLane fun l => { l with errorAges := ages }
  if errored && 16 ≤ ages.length then reacquire p (laneLoss p s1) else receive p sym s1

/-- R38: discard-rest: a lane whose FILLING descriptor was removed discards the rest of its packet. -/
def Reception.discardRest : Reception → Reception
  | .storing _ => .discarding
  | rx => rx

/-! ### The events of a lane -/

/-- LANE_SIGNAL_PRESENT (R19). The pin shows the signal even while RESETN is held low (assumption log 13); on a lane that is not
DOWN nothing more happens (assumption log 3). -/
def execLaneSignalPresent (p : PortId) (s : State) : Host.Outcome State Fault Refusal :=
  let s1 := s.onPort p fun q => q.onLane fun l => { l with signal := true }
  whenRunning s1 fun s1 =>
    if (s1.port p).lane.state = .down then s1.onPort p fun q => q.onLane Lane.startAcquiring else s1

/-- LANE_SIGNAL_LOST (R19, R20). The pin shows the loss even while RESETN is held low (assumption log 13). -/
def execLaneSignalLost (p : PortId) (s : State) : Host.Outcome State Fault Refusal :=
  let s1 := s.onPort p fun q => q.onLane fun l => { l with signal := false }
  whenRunning s1 fun s1 =>
    match (s1.port p).lane.state with
    | .down => s1
    | .acquiring => s1.onPort p fun q => q.onLane fun l => { l with state := .down, acquireRun := 0 }
    | .up => laneLoss p s1

/-- LANE_SYMBOL (R19, R20, R33). A DOWN lane receives nothing. -/
def execLaneSymbol (p : PortId) (sym : LaneSymbol) (s : State) : Host.Outcome State Fault Refusal :=
  whenRunning s fun s =>
    match (s.port p).lane.state with
    | .down => s
    | .acquiring => s.onPort p fun q => q.onLane fun l => l.acquire sym
    | .up => upSymbol p sym s

/-- CALL_DUE (R13, R27): the port's call falls due when the timebase reaches its due time; before or after that there is no
such event (assumption log 3). -/
def execCallDue (p : PortId) (s : State) : Host.Outcome State Fault Refusal :=
  whenRunning s fun s =>
    if (s.grid.due.get p).map (·.time) = some s.timebase then deliverCall p s else s

end Sys2Proof.Machine
end

