-- ==== Sys2Proof/Machine/WeaveTable.lean ====
section
/-! DEFINITION. The Weave Table (05_weave_table.md): capacity, commit and swap, shed set and cut point. -/

namespace Sys2Proof.Machine

/-! ### Capacity (R75) -/

/-- The cell rate of a class, in cells per 256 counts. -/
def cellRate : Nat → Nat
  | 0 => 3
  | 1 => 6
  | 2 => 10
  | 3 => 15
  | 4 => 20
  | _ => 26

/-- The capacity of a downlink line period of P counts at a class; never below 0. -/
def capacityOf (period cls : Nat) : Nat := period * cellRate cls / 256 - 2

/-! ### Quotas and fit (R70, R77) -/

/-- A port's total quota in a bank. -/
def quotaOf (bank : List SlotEntry) (p : PortId) : Nat :=
  ((bank.filter fun e => e.source == .port p).map (·.quota)).sum

/-- The total of a bank's priority-0 quotas. -/
def priorityZeroTotal (bank : List SlotEntry) : Nat := ((bank.filter fun e => e.priority == 0).map (·.quota)).sum

/-- R77 check (c) for one port. -/
def Port.fitsBank (q : Port) (p : PortId) (bank : List SlotEntry) : Bool :=
  !q.settings.enabled || q.settings.lineLen ≤ quotaOf bank p

/-- R77: the STAGED bank fits a capacity and the enabled ports. -/
def stagedFits (s : State) (capacity : Nat) : Bool :=
  1 ≤ s.table.staged.length && priorityZeroTotal s.table.staged ≤ capacity
    && PortId.all.all fun p => (s.port p).fitsBank p s.table.staged

/-- R76: the capacity for commit. -/
def commitCapacity (s : State) : Nat :=
  if s.link.framesRunning then s.engine.capacity.getD 0 else capacityOf s.grid.period s.link.ceiling

/-! ### The swap (R78) -/

/-- R78: the commit-pending mark at a frame start, with the capacity for the swap. -/
def swapBanks (capacity : Nat) (s : State) : State :=
  if s.table.commitPending then
    if stagedFits s capacity then
      ({ s with table := { s.table with
        active := s.table.staged
        generation := s.table.generation + 1
        commitPending := false } }).setFlag .commitDone
    else ({ s with table := { s.table with commitPending := false } }).setFlag .commitDropped
  else s

/-! ### Shed set and cut point (R80, R81) -/

/-- One priority's shedding over entries with their marks: the latest entry in table order is considered first, and each
unshed one of that priority is shed while the demand exceeds C. Answers the marks and the demand left. -/
def shedPass (capacity priority : Nat) : List (SlotEntry × Bool) → Nat → List (SlotEntry × Bool) × Nat
  | [], demand => ([], demand)
  | (e, m) :: rest, demand =>
    let r := shedPass capacity priority rest demand
    if e.priority = priority ∧ m = false ∧ capacity < r.2 then ((e, true) :: r.1, r.2 - e.quota) else ((e, m) :: r.1, r.2)

/-- R80: the entries of a bank with their shed marks at capacity C. -/
def shedEntries (capacity : Nat) (bank : List SlotEntry) : List (SlotEntry × Bool) :=
  let demand := (bank.map (·.quota)).sum
  let r3 := shedPass capacity 3 (bank.map fun e => (e, false)) demand
  let r2 := shedPass capacity 2 r3.1 r3.2
  (shedPass capacity 1 r2.1 r2.2).1

/-- R81: the first unshed entry, from index `k` on, whose quota takes the running total beyond C. -/
def findCut (capacity : Nat) : List (SlotEntry × Bool) → Nat → Nat → Option CutPoint
  | [], _, _ => none
  | (e, m) :: rest, k, total =>
    if m then findCut capacity rest (k + 1) total
    else if total + e.quota ≤ capacity then findCut capacity rest (k + 1) (total + e.quota)
    else some ⟨k, capacity - total⟩

/-- The 32 marks of a shed set; indices at or beyond the ACTIVE length are not shed. -/
def shedMarks (entries : List (SlotEntry × Bool)) : List Bool :=
  (entries.map (·.2) ++ List.replicate 32 false).take 32

/-- R81: the cells an entry at an index carries in each period of the frame. -/
def Engine.entryCells (g : Engine) (index quota : Nat) : Nat :=
  if g.shed.getD index false then 0
  else match g.cut with
    | none => quota
    | some c => if index < c.index then quota else if index = c.index then c.cells else 0

/-- The ACTIVE entries with their indices. -/
def State.slots (s : State) : List (SlotEntry × Nat) := s.table.active.zipIdx

/-- The cells each ACTIVE entry carries in the frame, in table order. -/
def State.slotCells (s : State) : List Nat := s.slots.map fun e => s.engine.entryCells e.2 e.1.quota

/-- R92: the room of a port in the frame. -/
def State.room (s : State) (p : PortId) : Nat :=
  ((s.slots.filter fun e => e.1.source == .port p).map fun e => s.engine.entryCells e.2 e.1.quota).sum

/-- R92: an unshed entry of the port carries fewer cells than its quota because of the cut. -/
def State.portIsCut (s : State) (p : PortId) : Bool :=
  s.slots.any fun e =>
    e.1.source == .port p && !s.engine.shed.getD e.2 false && s.engine.entryCells e.2 e.1.quota < e.1.quota

/-- R145: the ANC cells of the frame. -/
def State.ancCells (s : State) : Nat :=
  ((s.slots.filter fun e => e.1.source == .anc).map fun e => s.engine.entryCells e.2 e.1.quota).sum

/-! ### The frame start (R79, R82, R85, R112, R146) -/

/-- R112: the link acts on its scheduled class at a frame start. -/
def Link.atFrameStart (k : Link) : Link :=
  match k.state with
  | .up =>
    match k.scheduled with
    | some c =>
      if k.framesRunning then
        { k with inForce := some c, scheduled := none, ceiling := k.pendingCeiling.getD k.ceiling, pendingCeiling := none }
      else { k with framesRunning := true, inForce := some c, scheduled := none }
    | none => k
  | .training => k
  | .silent => k

/-- R79: the class of the frame that starts: the class in force if the link carries frames in it. -/
def Link.frameClass (k : Link) : Option Nat := if k.framesRunning then k.inForce else none

/-- R79 to R81, R85: the engine's values for the frame, from the bank in force and the class of the frame. -/
def Engine.atFrameStart (g : Engine) (period : Nat) (cls : Option Nat) (bank : List SlotEntry) : Engine :=
  match cls with
  | some k =>
    let entries := shedEntries (capacityOf period k) bank
    { g with
      prevShed := g.sheds
      frameClass := some k
      capacity := some (capacityOf period k)
      shed := shedMarks entries
      cut := findCut (capacityOf period k) entries 0 0 }
  | none =>
    { g with prevShed := g.sheds, frameClass := none, capacity := none, shed := List.replicate 32 false, cut := none }

/-- The frame-start notice (R12) in the Triax Link (R112), the Weave Table (R78), the Weave Engine (R79, R82, R85) and the
Ancillary Buffer (R146). The order of these four does not show (R79). Each takes P from the notice; none of them reads its
tag, frame count, G or realign mark, since each acts alike at a realign. -/
def frameStart (nt : FrameNotice) (s : State) : State :=
  let s1 := { s with link := s.link.atFrameStart }
  let cls := s1.link.frameClass
  let s2 := swapBanks (capacityOf nt.period (cls.getD s1.link.ceiling)) s1
  let g := s2.engine.atFrameStart nt.period cls s2.table.active
  let s3 := { s2 with engine := g, anc := { s2.anc with repeatPos := 0 } }
  (s3.setFlagIf (g.sheds && !g.prevShed) .shedding).setFlagIf g.cut.isSome .cut

end Sys2Proof.Machine
end

