-- ==== Sys2Proof/Machine/Take.lean ====
section
/-! DEFINITION. The Weave Engine's release and take at a line start (06_weave_engine.md sections 6.3, 03_line_stores.md
sections 3.6 and 3.7). -/

namespace Sys2Proof.Machine

/-- Sets the engine's SENDING mark of a port. -/
def setSending (p : PortId) (m : Option SendingMark) (s : State) : State :=
  { s with engine := { s.engine with sending := s.engine.sending.set p m } }

/-- Sets the engine's take outcome of a port. -/
def setOutcome (p : PortId) (o : TakeOutcome) (s : State) : State :=
  { s with engine := { s.engine with outcome := s.engine.outcome.set p o } }

/-- R51, R86 step 1: the SENDING line is released. -/
def releaseLine (p : PortId) (s : State) : State :=
  setSending p none (s.onPort p fun q => q.onStore Store.releaseSending)

/-- R52: the stale purge of a port; a FILLING descriptor that goes leaves the lane in discard-rest (R38). -/
def Port.purge (q : Port) (wanted : LineCount) : Port :=
  { q with
    store := q.store.purgeStale wanted
    lane := if (q.store.stale wanted).any fun d => d.state == .filling
      then { q.lane with rx := q.lane.rx.discardRest } else q.lane }

/-- The Call List entries called before the wanted line (R32). -/
def Port.unanswered (q : Port) (wanted : LineCount) : List CallEntry := q.callList.filter fun e => before e.callCount wanted

/-- R32: an entry stays when it is neither before the wanted call count nor equal to it. -/
def CallEntry.stays (e : CallEntry) (wanted : LineCount) : Bool := !before e.callCount wanted && e.callCount != wanted

/-- R32, R43: the Call List is pruned and the reservations of the entries that leave return. -/
def Port.prune (q : Port) (wanted : LineCount) : Port :=
  { q with
    callList := q.callList.filter fun e => e.stays wanted
    store := q.store.unreserve q.settings.lineLen (q.callList.filter fun e => !e.stays wanted).length }

/-- R88 parts 1 and 2: purge and prune, with their counts. -/
def purgeAndPrune (p : PortId) (wanted : LineCount) (s : State) : State :=
  let q := s.port p
  (s.countPort p fun c =>
    { c with
      stale := addSat c.stale (q.store.stale wanted).length
      unanswered := addSat c.unanswered (q.unanswered wanted).length }).onPort p fun q => (q.purge wanted).prune wanted

/-- The five outcomes of a take's decision (R89). -/
inductive TakeDecision where
  | send (d : Descriptor)
  | passDamaged (d : Descriptor)
  | concealDamaged
  | late
  | missing
deriving DecidableEq, Repr

/-- R89: the decision, from the oldest descriptor left after the purge. -/
def takeDecision (x : Store) (policy : DamagePolicy) (wanted : LineCount) : TakeDecision :=
  match x.ring with
  | [] => .missing
  | d :: _ =>
    if d.callCount = wanted then
      match d.state with
      | .complete => .send d
      | .damaged => match policy with
        | .pass => .passDamaged d
        | .conceal => .concealDamaged
      | .filling => .late
      | .sending => .missing
    else .missing

/-- R92: the counters of a line that loses cells to the frame's shed set or cut point. -/
def countLostCells (p : PortId) (d : Descriptor) (s : State) : State :=
  if s.engine.capacity.isSome ∧ s.room p < d.count then
    if s.portIsCut p then s.countPort p fun c => { c with cutLines := bump c.cutLines }
    else s.countPort p fun c => { c with shedLines := bump c.shedLines }
  else s

/-- R49, R89: the oldest descriptor becomes SENDING. -/
def sendLine (p : PortId) (d : Descriptor) (s : State) : State :=
  let s1 := (s.countPort p fun c => { c with linesTaken := bump c.linesTaken }).onPort p fun q => q.onStore Store.sendOldest
  countLostCells p d (setOutcome p .sent (setSending p (some ⟨d.callCount, 0⟩) s1))

/-- R89: the line is concealed: counted, flagged, and the port's outcome CONCEALED. -/
def concealLine (p : PortId) (s : State) : State :=
  setOutcome p .concealed
    ((s.countPort p fun c => { c with concealed := bump c.concealed }).setFlag (.port p .concealed))

/-- R89: a damaged line is counted and flagged once, whichever policy applies. -/
def countDamaged (p : PortId) (s : State) : State :=
  (s.countPort p fun c => { c with damaged := bump c.damaged }).setFlag (.port p .damaged)

/-- R89, R53: what a decision does. -/
def actOnDecision (p : PortId) (t : TakeDecision) (s : State) : State :=
  match t with
  | .send d => sendLine p d s
  | .passDamaged d => countDamaged p (sendLine p d s)
  | .concealDamaged => concealLine p (countDamaged p (s.onPort p fun q => q.onStore Store.dropOldest))
  | .late =>
    concealLine p ((s.countPort p fun c => { c with late := bump c.late }).onPort p fun q =>
      { q with store := q.store.dropOldest, lane := { q.lane with rx := q.lane.rx.discardRest } })
  | .missing => concealLine p s

/-- R88: the take of a port for the wanted call count. -/
def takeLine (p : PortId) (wanted : LineCount) (s : State) : State :=
  let s1 := purgeAndPrune p wanted s
  actOnDecision p (takeDecision (s1.port p).store (s1.port p).settings.policy wanted) s1

/-- R87: the new line lies in the take window. -/
def LineNotice.inTakeWindow (nt : LineNotice) : Bool := nt.delay ≤ nt.n && nt.n + 1 ≤ nt.imageLines + nt.delay

/-- R87: the wanted call count. -/
def LineNotice.wanted (nt : LineNotice) : LineCount := nt.lineCount - BitVec.ofNat 32 nt.delay

/-- R86: the engine's step for one port at a line start. -/
def enginePort (nt : LineNotice) (p : PortId) (s : State) : State :=
  let s1 := releaseLine p s
  if (s1.port p).settings.enabled && nt.inTakeWindow then takeLine p nt.wanted s1 else setOutcome p .none s1

end Sys2Proof.Machine
end

