-- ==== Sys2Proof/Machine/AncMail.lean ====
section
/-! DEFINITION. The Ancillary Buffer and the Mailboxes (09_ancillary_buffer_and_mailboxes.md): what ANC and RETURN cells
carry. -/

namespace Sys2Proof.Machine

/-! ### Ancillary cells (R145, R146) -/

/-- The allowance fixed at the composition of a carried period. -/
def AncBuffer.allowanceFor (a : AncBuffer) (ancCells : Nat) : Nat :=
  match a.mode with
  | .stream => min a.fill (32 * ancCells)
  | .repeating => 32 * ancCells

/-- The bytes the next ANC cell takes, before its fill. -/
def AncBuffer.nextBytes (a : AncBuffer) : List Byte :=
  let k := min a.allowance 32
  match a.mode with
  | .stream => a.store.readRing 4096 a.readPoint k
  | .repeating => a.store.readRing a.window a.repeatPos k

/-- The buffer after an ANC cell is handed over. -/
def AncBuffer.afterCell (a : AncBuffer) : AncBuffer :=
  let k := min a.allowance 32
  match a.mode with
  | .stream =>
    { a with readPoint := (a.readPoint + k) % 4096, fill := a.fill - k, allowance := a.allowance - k }
  | .repeating => { a with repeatPos := (a.repeatPos + k) % a.window, allowance := a.allowance - k }

/-! ### The RETURN stream (R147, R148, R149) -/

/-- A return record: kind, body length, body, check. -/
def returnRecord (kind : Byte) (body : List Byte) : List Byte := withCheck (kind :: (be16n body.length ++ body))

/-- The record at the head of a return source. -/
def State.headRecord? (s : State) : ReturnSource → Option (List Byte)
  | .forwardReply => s.bus.remoteReplies.head?.map fun r => returnRecord 1 r.returnBody
  | .mail => s.mail.outbox.head?.map fun b => returnRecord 2 b

/-- The cells a record occupies: 32 bytes each, the last one filled up. -/
def cellsOf (record : List Byte) : Nat := (record.length + 31) / 32

/-- Cell `k` of a record, with fill after its last byte. -/
def recordCell (record : List Byte) (k : Nat) : List Byte := padTo 32 ((record.drop (32 * k)).take 32)

/-- R148: the source the next record comes from, by alternation. -/
def State.chooseSource (s : State) : Option ReturnSource :=
  match (s.headRecord? .forwardReply).isSome, (s.headRecord? .mail).isSome with
  | true, true => some (match s.mail.lastSource with | .mail => .forwardReply | .forwardReply => .mail)
  | true, false => some .forwardReply
  | false, true => some .mail
  | false, false => none

/-- A cell of fill: 32 bytes of 0x00 (R94). -/
def fillCell : List Byte := List.replicate 32 0

/-- R148: a RETURN cell is handed over: the record in progress goes on, or the next one is chosen, or the cell is fill.
Answers the cell's bytes and whether they belong to a record. -/
def returnCell (s : State) : State × List Byte × Bool :=
  match s.mail.record with
  | some r => (s, recordCell ((s.headRecord? r.source).getD []) r.carried, true)
  | none =>
    match s.chooseSource with
    | some src =>
      ({ s with mail := { s.mail with record := some ⟨src, 0⟩, lastSource := src } },
        recordCell ((s.headRecord? src).getD []) 0, true)
    | none => (s, fillCell, false)

/-- R149: a record whose last cell is carried leaves its source. -/
def removeRecord (src : ReturnSource) (s : State) : State :=
  match src with
  | .forwardReply => { s with bus := { s.bus with remoteReplies := s.bus.remoteReplies.tail } }
  | .mail => { s with mail := { s.mail with outbox := s.mail.outbox.tail } }

/-- R149: the RETURN cell in flight is carried. -/
def cellCarried (r : ReturnRecord) (s : State) : State :=
  let size := cellsOf ((s.headRecord? r.source).getD [])
  if size ≤ r.carried + 1 then
    let s1 := removeRecord r.source s
    evalHold { s1 with mail := { s1.mail with record := none } }
  else { s with mail := { s.mail with record := some { r with carried := r.carried + 1 } } }

/-- R100: cells of the carried period have not been handed over yet. -/
def State.cellsLeft (s : State) : Bool := s.engine.handed < 2 + s.slotCells.sum

/-- R149: when frames stop, a record in progress returns to its beginning. -/
def Mailboxes.rewind (m : Mailboxes) : Mailboxes :=
  { m with record := m.record.map fun r => { r with carried := 0 } }

/-- RETURN_CELL_CARRIED (R149): the last byte of the RETURN cell in flight is sent, after which the frame idle pattern
follows where it was the period's last (R116); with none in flight there is no such event (assumption log 3). -/
def execReturnCellCarried (s : State) : Host.Outcome State Fault Refusal :=
  whenRunning s fun s =>
    if s.link.returnInFlight then
      let s1 := { s with link := { s.link with
        returnInFlight := false
        cell := if s.cellsLeft then s.link.cell else none } }
      match s1.mail.record with
      | some r => cellCarried r s1
      | none => s1
    else s

end Sys2Proof.Machine
end

