-- ==== Sys2Proof/Machine/Period.lean ====
section
/-! DEFINITION. The downlink line period (06_weave_engine.md section 6.4, R116): composition at the line start and the
handover of its cells; the training idle (R109). -/

namespace Sys2Proof.Machine

/-! ### Slot statuses (R96 to R98) -/

/-- The slot status codes (R96). -/
def SlotStatus.code : SlotStatus → BitVec 4
  | .line => 0
  | .part => 1
  | .spare => 2
  | .missing => 3
  | .damaged => 4
  | .cut => 5
  | .idle => 6
  | .anc => 7
  | .ret => 8
  | .fill => 9
  | .shed => 10
  | .absent => 15

/-- R98: the status of a slot of `cells` cells that receives `laid` line cells; R97 case 7: DAMAGED in place of LINE or PART
for a line that was passed damaged. -/
def laidStatus (cells laid : Nat) (damaged : Bool) : SlotStatus :=
  if laid = 0 then .spare
  else if damaged then .damaged
  else if laid = cells then .line else .part

/-- R98: the line cells an entry of `cells` cells receives when `lay` of the line's `count` cells are laid already. -/
def laidCells (cells count lay : Nat) : Nat := min cells (count - lay)

/-- R97: the status of one entry that is neither shed nor cut, and the lay positions after it. -/
def State.openStatus (s : State) (e : SlotEntry) (cells : Nat) (lay : Quad Nat) : SlotStatus × Quad Nat :=
  match e.source with
  | .anc => (.anc, lay)
  | .ret => (.ret, lay)
  | .fill => (.fill, lay)
  | .port p =>
    match s.engine.outcome.get p with
    | .none => (.idle, lay)
    | .concealed => (.missing, lay)
    | .sent =>
      let d := (s.port p).store.sending?
      let laid := laidCells cells ((d.map (·.count)).getD 0) (lay.get p)
      (laidStatus cells laid (d.map (·.result) = some (some .damaged)), lay.set p (lay.get p + laid))

/-- R97: the statuses of the ACTIVE entries, with the lay positions carried along the table. -/
def State.statuses (s : State) : List (SlotEntry × Nat) → Quad Nat → List SlotStatus
  | [], _ => []
  | (e, i) :: rest, lay =>
    if s.engine.shed.getD i false then .shed :: s.statuses rest lay
    else
      match s.engine.cut with
      | some c =>
        if c.index ≤ i then .cut :: s.statuses rest lay
        else
          let r := s.openStatus e (s.engine.entryCells i e.quota) lay
          r.1 :: s.statuses rest r.2
      | none =>
        let r := s.openStatus e (s.engine.entryCells i e.quota) lay
        r.1 :: s.statuses rest r.2

/-- The slot status list of the period: 32 codes, ABSENT at and beyond the ACTIVE length (R97 case 1). -/
def State.statusList (s : State) : List SlotStatus :=
  (s.statuses s.slots (Quad.const 0) ++ List.replicate 32 SlotStatus.absent).take 32

/-! ### The two overhead cells (R95, R116, section 10.7) -/

/-- The line header cell. -/
def headerCell (s : State) (nt : LineNotice) (status : List SlotStatus) (ancBytes : Nat) : List Byte :=
  withCheck (padTo 30 (
    [nt.tag ++ BitVec.ofBool s.mail.hold ++ (0 : BitVec 5)] ++ be16n nt.n
      ++ [byteOrNone s.engine.frameClass, s.table.generation]
      ++ packMarks s.engine.shed ++ packNibbles (status.map (·.code)) ++ be16n ancBytes))

/-- The maintenance cell. -/
def maintenanceCell (k : Link) : List Byte :=
  withCheck (padTo 30 (
    [byteOrNone k.inForce, byteOrNone k.scheduled, byteOf k.ceiling, byteOrNone k.pendingCeiling] ++ be16n k.threshold
      ++ [byteOf k.badRun, byteOf k.cleanRun] ++ be16n k.lastE ++ [byteOf k.failureRun]))

/-- The training idle the downlink carries while frames are not running (R109). -/
def trainingIdle (k : Link) : List Byte :=
  withCheck (padTo 30 (match k.answer with
    | .none => [0x00, 0xFF, byteOf k.ceiling]
    | .accept c => [0x01, byteOf c, byteOf k.ceiling]
    | .reject => [0x02, 0xFF, byteOf k.ceiling]))

/-- What the downlink carries (R109, R116). -/
inductive Downlink where
  | trainingIdle (bytes : List Byte)
  | cell (bytes : List Byte)
  | frameIdle
deriving DecidableEq, Repr

/-- What the pin TXD carries: training idles while frames do not run (R109, R115); else the cell handed over, or, after the
last cell of a period, the frame idle pattern (R116). -/
def State.downlink (s : State) : Downlink :=
  if s.link.framesRunning then
    match s.link.cell with
    | some c => .cell c.bytes
    | none => .frameIdle
  else .trainingIdle (trainingIdle s.link)

/-- R93, R95, R101, R103, R116, R145: the period that opens at a line start is composed, or, while the link carries no
frames, it is not. -/
def composePeriod (nt : LineNotice) (s : State) : State :=
  if s.link.framesRunning then
    let ancBytes := s.anc.allowanceFor s.ancCells
    let status := s.statusList
    { s with
      anc := { s.anc with allowance := ancBytes }
      engine := { s.engine with
        carried := true
        status := status
        header := headerCell s nt status ancBytes
        maintenance := maintenanceCell s.link
        handed := 0 } }
  else { s with engine := { s.engine with carried := false, header := [], maintenance := [], handed := 0 } }

/-! ### Handover (R94, R98 to R100, R102) -/

/-- The index of the entry that slot cell `k` of the period belongs to. -/
def slotOfCell : List Nat → Nat → Nat → Option Nat
  | [], _, _ => none
  | c :: rest, index, k => if k < c then some index else slotOfCell rest (index + 1) (k - c)

/-- R98, R102: the next cell of a port's entry: a line cell while the SENDING line has cells left, else fill. -/
def portCell (p : PortId) (s : State) : State × List Byte :=
  match s.engine.sending.get p, (s.port p).store.sending? with
  | some m, some d =>
    if m.lay < d.count then
      (setSending p (some { m with lay := m.lay + 1 }) s, (s.port p).store.lineCell d m.lay)
    else (s, fillCell)
  | some _, none => (s, fillCell)
  | none, _ => (s, fillCell)

/-- Gives a cell to the link. -/
def putCell (kind : CellKind) (bytes : List Byte) (inFlight : Bool) (s : State) : State :=
  { s with
    engine := { s.engine with handed := s.engine.handed + 1 }
    link := { s.link with cell := some ⟨kind, bytes⟩, returnInFlight := inFlight } }

/-- R98, R99: the next cell of an entry. -/
def handSlotCell (index : Nat) (src : Source) (s : State) : State :=
  match src with
  | .port p =>
    let r := portCell p s
    putCell (.slot index) r.2 false r.1
  | .anc => putCell (.slot index) (padTo 32 s.anc.nextBytes) false { s with anc := s.anc.afterCell }
  | .ret =>
    let r := returnCell s
    putCell (.slot index) r.2.1 r.2.2 r.1
  | .fill => putCell (.slot index) fillCell false s

/-- R116: with no cell left in the period the link sends the frame idle pattern. -/
def sendFrameIdle (s : State) : State := { s with link := { s.link with cell := none } }

/-- R94, R100: the next cell of the carried period: header, maintenance, then the slot cells. After the last cell the link,
which would take another, sends the frame idle pattern (R116; assumption log 23). -/
def handNextCell (s : State) : State :=
  match s.engine.handed with
  | 0 => putCell .header s.engine.header false s
  | 1 => putCell .maintenance s.engine.maintenance false s
  | k + 2 =>
    match slotOfCell s.slotCells 0 k with
    | some i =>
      match s.table.active[i]? with
      | some e => handSlotCell i e.source s
      | none => sendFrameIdle s
    | none => sendFrameIdle s

/-- CELL_HANDOVER (R100): the link takes the next cell, or after the last one the frame idle pattern (R116). There is no
such event in a period that is not carried, once frames have stopped (R103, R115), or while a RETURN cell is still being
sent (R149); assumption log 3. -/
def execCellHandover (s : State) : Host.Outcome State Fault Refusal :=
  whenRunning s fun s =>
    if s.engine.carried && s.link.framesRunning && !s.link.returnInFlight then handNextCell s else s

end Sys2Proof.Machine
end

