-- ==== Sys2Proof/Machine/Bus.lean ====
section
/-! DEFINITION. The Board Bus Controller (08_board_bus_and_forwarding.md): entries and their records, retiring, arbitration,
the gate, the bus phases, and replies. -/

namespace Sys2Proof.Machine

/-! ### Replies (R124) -/

/-- The reply of a transaction. -/
def Txn.reply (t : Txn) (result : BusResult) (done : Nat) (reads : List Word) : BusReply where
  origin := t.origin
  tag := t.tag
  board := t.board
  kind := t.kind
  result := result
  done := done
  next := t.start + BitVec.ofNat 16 done
  reads := reads

/-- A reply is appended to the reply queue of its origin. -/
def Bus.addReply (b : Bus) (r : BusReply) : Bus :=
  match r.origin with
  | .toLocal => { b with localReplies := b.localReplies ++ [r] }
  | .remote => { b with remoteReplies := b.remoteReplies ++ [r] }

/-- Changes the Board Bus Controller. -/
def State.onBus (s : State) (f : Bus → Bus) : State := { s with bus := f s.bus }

/-! ### Remote entries and their records (R127 to R129) -/

/-- R128: the entry becomes VOID when its head is in and not well formed, or its body length does not fit, or its level. -/
def RemoteEntry.headBad (bodyLen : Nat) (t : Txn) : Bool :=
  !t.wellFormed
    || bodyLen != (if t.isWrite then 8 + 2 * t.count.toNat else 8)
    || (t.isWrite && t.atLevel && !(1 ≤ t.level.toNat && t.level.toNat ≤ 32))

/-- R128: a word's bytes in order; the words stop at the transaction's count. -/
def takeWordByte (t : Txn) (half : Option Byte) (b : Byte) : Txn × Option Byte :=
  if t.isWrite && t.words.length < t.count.toNat then
    match half with
    | none => (t, some b)
    | some h => ({ t with words := t.words ++ [ofBe16 h b] }, none)
  else (t, half)

/-- R118, R128: a byte of its record reaches an entry: the first 8 fill the transaction head, also where a body of 6 or 7 bytes
leaves the last of them to the check bytes (DEDUCED, assumption log 24); a byte after them adds to the words if it is a body
byte; a VOID entry discards it. -/
def RemoteEntry.feed (e : RemoteEntry) (inBody : Bool) (b : Byte) : RemoteEntry :=
  match e.state with
  | .receiving =>
    if e.head.length < 8 then
      let head := e.head ++ [b]
      if head.length = 8 then
        let t := txnOfHead head
        { e with head := head, txn := t, state := if RemoteEntry.headBad e.bodyLen t then .void else .receiving }
      else { e with head := head }
    else if inBody then
      let r := takeWordByte e.txn e.half b
      { e with txn := r.1, half := r.2 }
    else e
  | .ended => e
  | .void => e

/-- R127: the entry an accepted header appends. -/
def RemoteEntry.fresh (bodyLen : Nat) : RemoteEntry where
  bodyLen := bodyLen
  head := []
  txn := txnOfHead []
  half := none
  state := .receiving
  arriving := true

/-- R130: a remote head is eligible, POWER_ON apart. -/
def RemoteEntry.ready (e : RemoteEntry) : Bool :=
  match e.state with
  | .ended => true
  | .void => false
  | .receiving =>
    e.head.length == 8 && e.txn.isWrite && e.txn.atLevel && e.txn.level.toNat ≤ e.txn.words.length

/-- R129: a VOID head whose record is over is retired. -/
def RemoteEntry.retirable (e : RemoteEntry) : Bool := e.state == .void && !e.arriving

/-! ### Release, gate and arbitration (R129 to R134) -/

/-- R134: a transaction is released to the bus: SELECT begins. -/
def release (t : Txn) (half : Option Byte) (record : RecordStatus) (s : State) : State :=
  (s.onBus fun b =>
    { b with
      txn := some { txn := t, phase := .select, sent := 0, acked := false, reads := [], half := half, record := record,
                    expiry := none }
      out := [.select t.board t.kind t.start t.count] }).countBus fun c =>
    { c with transactions := bump c.transactions }

/-- R131: the local head is granted. -/
def grantLocal (t : Txn) (rest : List Txn) (s : State) : State :=
  release t none .passed (s.onBus fun b => { b with localQueue := rest, lastServed := .toLocal })

/-- R132: the gate as it stands. -/
def Bus.gateOpen (b : Bus) : Bool :=
  match b.gate with
  | .opened => true
  | .single => b.permit
  | .shut => false

/-- R131, R132: the remote head is granted; a write passes the gate, which may answer it GATED. -/
def grantRemote (e : RemoteEntry) (rest : List RemoteEntry) (s : State) : State :=
  let s1 := s.onBus fun b => { b with remoteQueue := rest, lastServed := .remote }
  let record := if e.arriving then RecordStatus.arriving else .passed
  if e.txn.isWrite then
    if s.bus.gateOpen then
      release e.txn e.half record (s1.onBus fun b => { b with permit := false })
    else (s1.onBus fun b => b.addReply (e.txn.reply .gated 0 [])).setFlag .gateRefused
  else release e.txn e.half record s1

/-- R129: the VOID head is retired: answered CHECK, REMOTE_CHECK set, HOLD re-evaluated (R150). -/
def retireHead (e : RemoteEntry) (rest : List RemoteEntry) (s : State) : State :=
  evalHold ((s.onBus fun b => { b with remoteQueue := rest }.addReply (e.txn.reply .check 0 [])).setFlag .remoteCheck)

/-- The remote head when it may be granted (R130). -/
def State.eligibleRemote (s : State) : Option (RemoteEntry × List RemoteEntry) :=
  match s.bus.remoteQueue with
  | e :: rest => if e.ready && !s.hasFlag .powerOn then some (e, rest) else none
  | [] => none

/-- R131: one grant, when the bus is IDLE, granting is not stopped and a head is eligible. -/
def arbitrate (s : State) : Option State :=
  if s.bus.txn.isNone && !s.bus.grantingStopped then
    match s.bus.localQueue, s.eligibleRemote with
    | t :: rest, some r =>
      match s.bus.lastServed with
      | .remote => some (grantLocal t rest s)
      | .toLocal => some (grantRemote r.1 r.2 s)
    | t :: rest, none => some (grantLocal t rest s)
    | [], some r => some (grantRemote r.1 r.2 s)
    | [], none => none
  else none

/-- One retirement, or else one grant; none when neither is due. -/
def busAct (s : State) : Option State :=
  match s.bus.remoteQueue with
  | e :: rest => if e.retirable then some (retireHead e rest s) else arbitrate s
  | [] => arbitrate s

/-- Retirements and grants for as long as they are due. -/
def settleFor : Nat → State → State
  | 0, s => s
  | k + 1, s =>
    match busAct s with
    | some s' => settleFor k s'
    | none => s

/-- R129, R131: whatever the present state makes due at the bus happens; each act takes an entry from a queue. -/
def settleBus (s : State) : State := settleFor (s.bus.localQueue.length + s.bus.remoteQueue.length) s

/-! ### The bus phases (R134 to R138) -/

/-- The expiry of a wait that begins now (R134, R140): the timeout in µs at 148.5 counts each, rounded down (R122). -/
def State.waitExpiry (s : State) : Time := later s.timebase (s.bus.answerTimeout * 297 / 2)

/-- Changes the transaction on the bus. -/
def setBusTxn (t : BusTxn) (s : State) : State := s.onBus fun b => { b with txn := some t }

/-- R137: the next word is sent if it is in, else it is awaited. -/
def sendOrAwait (t : BusTxn) (s : State) : State :=
  match t.txn.words[t.sent]? with
  | some w => (setBusTxn { t with phase := .sendingWord, expiry := none } s).onBus fun b => { b with out := [.word w] }
  | none => setBusTxn { t with phase := .awaitingWord, expiry := some s.waitExpiry } s

/-- R135, R136: ANSWER is entered. -/
def enterAnswer (t : BusTxn) (s : State) : State := setBusTxn { t with phase := .answer, expiry := some s.waitExpiry } s

/-- The flag and counter of a result at the bus end (R135, R136, R137). -/
def countResult (result : BusResult) (s : State) : State :=
  match result with
  | .nak => (s.countBus fun c => { c with naks := bump c.naks }).setFlag .busNak
  | .timeout => (s.countBus fun c => { c with timeouts := bump c.timeouts }).setFlag .busTimeout
  | .underrun => (s.countBus fun c => { c with timeouts := bump c.timeouts }).setFlag .busTimeout
  | .ok => s
  | .gated => s
  | .check => s
  | .lateCheck => s

/-- R138: where the reply of a transaction that reached its bus end goes, by its record. -/
def placeReply (record : RecordStatus) (r : BusReply) (s : State) : State :=
  match record with
  | .passed => s.onBus fun b => b.addReply r
  | .failed => (s.onBus fun b => b.addReply { r with result := .lateCheck }).setFlag .remoteCheck
  | .arriving => s.onBus fun b => { b with pendingReply := some r }

/-- The end of a transaction on the bus (R135, R136, R138), then arbitration (R131). -/
def endTxn (t : BusTxn) (result : BusResult) (done : Nat) (s : State) : State :=
  let s1 := countResult result (s.onBus fun b => { b with txn := none })
  settleBus (placeReply t.record (t.txn.reply result done t.reads) s1)

/-- R137: a starved write ends UNDERRUN with ABORT; its reply does not wait for its record. The ABORT goes out before the
SELECT of a transaction that the bus is handed to at once. -/
def underrun (t : BusTxn) (s : State) : State :=
  let s1 := countResult .underrun (s.onBus fun b => { b with txn := none, out := [] })
  (settleBus (placeReply .passed (t.txn.reply .underrun t.sent []) s1)).onBus fun b => { b with out := .abort :: b.out }

/-- R135, R136, R137: SELECT or a word has ended on the bus. No rule names the event that ends SELECT: the model takes
WORD_SENT, the end of what the controller sends, for it (DESIGN CHOICE, assumption log 31). -/
def wordEnded (t : BusTxn) (s : State) : State :=
  match t.phase with
  | .select => if t.txn.isWrite then sendOrAwait t s else enterAnswer t s
  | .sendingWord =>
    let t1 := { t with sent := t.sent + 1 }
    if t1.sent < t1.txn.count.toNat then sendOrAwait t1 s
    else if t1.txn.board = 7 then endTxn t1 .ok t1.sent s
    else enterAnswer t1 s
  | .awaitingWord => s
  | .answer => s

/-- R135, R136: the board's answer. An answer no transaction waits for is discarded (R134), one that comes before SELECT has
ended among them (assumption log 31). -/
def boardAnswered (t : BusTxn) (a : BoardAnswer) (s : State) : State :=
  match t.phase with
  | .answer =>
    if t.txn.isWrite then
      match a with
      | .ack => endTxn t .ok t.sent s
      | .nak => endTxn t .nak 0 s
    else if t.acked then s
    else
      match a with
      | .ack => setBusTxn { t with acked := true, expiry := some s.waitExpiry } s
      | .nak => endTxn t .nak 0 s
  | .select => s
  | .sendingWord => s
  | .awaitingWord => s

/-- R136: a read word. A word no read waits for is discarded (R134). -/
def wordRead (t : BusTxn) (w : Word) (s : State) : State :=
  if t.phase = .answer ∧ t.txn.isWrite = false ∧ t.acked = true then
    let t1 := { t with reads := t.reads ++ [w] }
    if t1.reads.length < t1.txn.count.toNat then setBusTxn { t1 with expiry := some s.waitExpiry } s
    else endTxn t1 .ok t1.reads.length s
  else s

/-- R135, R136, R137: a wait has run out. -/
def waitExpired (t : BusTxn) (s : State) : State :=
  match t.phase with
  | .answer => endTxn t .timeout (if t.txn.isWrite then t.sent else t.reads.length) s
  | .awaitingWord => underrun t s
  | .select => s
  | .sendingWord => s

/-! ### The record of a remote transaction (R127 to R129, R138) -/

/-- Replaces the newest of a list of entries by the entries a function gives for it. -/
def onNewest (f : RemoteEntry → List RemoteEntry) : List RemoteEntry → List RemoteEntry
  | [] => []
  | [e] => f e
  | e :: rest => e :: onNewest f rest

/-- The newest entry of the Remote Forward Queue, if its record is still arriving. -/
def Bus.receiving? (b : Bus) : Option RemoteEntry :=
  match b.remoteQueue.getLast? with
  | some e => if e.arriving then some e else none
  | none => none

/-- R128, R137: a body byte reaches the transaction on the bus; a word that was awaited is sent. -/
def feedBusTxn (t : BusTxn) (b : Byte) (s : State) : State :=
  let r := takeWordByte t.txn t.half b
  let t1 := { t with txn := r.1, half := r.2 }
  if t1.phase = .awaitingWord ∧ t1.sent < t1.txn.words.length then sendOrAwait t1 s else setBusTxn t1 s

/-- R118, R128: every byte of an accepted BOARD-FORWARD record after its header is handed on, its body's bytes and its check's;
the head may become eligible (R131). A released entry's words are body bytes, so its check bytes are discarded, as is every
byte after its words are all in or after it has been gated. -/
def feedRemote (inBody : Bool) (b : Byte) (s : State) : State :=
  if s.bus.receiving?.isSome then
    settleBus (s.onBus fun x => { x with remoteQueue := onNewest (fun e => [e.feed inBody b]) x.remoteQueue })
  else
    match s.bus.txn with
    | some t => if inBody = true ∧ t.record = .arriving then feedBusTxn t b s else s
    | none => s

/-- How a record's arrival ended (R119). -/
inductive RecordEnd where
  | passed | failed | abandoned
deriving DecidableEq, Repr

/-- R129: the entry after its record's end; none removes it. -/
def RemoteEntry.afterEnd (e : RemoteEntry) (r : RecordEnd) : Option RemoteEntry :=
  match e.state with
  | .receiving =>
    if e.head.length < 8 then none
    else match r with
      | .passed => some { e with state := .ended, arriving := false }
      | .failed => some { e with state := .void, arriving := false }
      | .abandoned => some { e with state := .void, arriving := false }
  | .ended => some { e with arriving := false }
  | .void => some { e with arriving := false }

/-- R138: the pending-check reply leaves when its record has ended. -/
def resolvePending (reply : BusReply) (r : RecordEnd) (s : State) : State :=
  let s1 := s.onBus fun b => { b with pendingReply := none }
  match r with
  | .passed => placeReply .passed reply s1
  | .failed => placeReply .failed reply s1
  | .abandoned => placeReply .failed reply s1

/-- R129, R137, R138: the Triax Link reports the end or abandonment of an accepted record. One of the entry in the queue,
the transaction on the bus and the pending-check reply is concerned, or none when the write was gated or starved. -/
def remoteRecordEnded (r : RecordEnd) (s : State) : State :=
  match s.bus.receiving? with
  | some e =>
    let s1 := s.onBus fun b => { b with remoteQueue := onNewest (fun e => (e.afterEnd r).toList) b.remoteQueue }
    settleBus (if (e.afterEnd r).isNone then evalHold (s1.setFlag .remoteCheck) else s1)
  | none =>
    match s.bus.txn with
    | some t =>
      if t.record = .arriving then
        setBusTxn { t with record := match r with | .passed => .passed | .failed => .failed | .abandoned => .failed } s
      else s
    | none => s

/-- R138: the pending-check reply is concerned when neither an entry nor the transaction on the bus is. -/
def reportRecordEnd (r : RecordEnd) (s : State) : State :=
  match s.bus.pendingReply with
  | some reply => resolvePending reply r s
  | none => remoteRecordEnded r s

/-- R127: a BOARD-FORWARD header is accepted while the remote outstanding count is below 8. -/
def acceptRemote (bodyLen : Nat) (s : State) : State :=
  evalHold (s.onBus fun b => { b with remoteQueue := b.remoteQueue ++ [RemoteEntry.fresh bodyLen] })

/-- R127: a BOARD-FORWARD header is dropped. -/
def dropRemote (s : State) : State :=
  (s.countBus fun c => { c with remoteDropped := bump c.remoteDropped }).setFlag .remoteDropped

/-! ### The events of the bus -/

/-- Runs an event of the transaction on the bus; with the bus IDLE there is no such event (R134). -/
def withBusTxn (f : BusTxn → State → State) (s : State) : State :=
  match s.bus.txn with
  | some t => f t s
  | none => s

/-- WORD_SENT (R135, R137; of SELECT, assumption log 31). -/
def execWordSent (s : State) : Host.Outcome State Fault Refusal := whenRunning s (withBusTxn wordEnded)

/-- BOARD_ANSWER (R135, R136). -/
def execBoardAnswer (a : BoardAnswer) (s : State) : Host.Outcome State Fault Refusal :=
  whenRunning s (withBusTxn fun t s => boardAnswered t a s)

/-- READ_WORD (R136). -/
def execReadWord (w : Word) (s : State) : Host.Outcome State Fault Refusal :=
  whenRunning s (withBusTxn fun t s => wordRead t w s)

/-- ANSWER_TIMEOUT (R134 to R137): the timebase reaches the expiry of the wait that runs; at another count there is no such
event (assumption log 3). -/
def execAnswerTimeout (s : State) : Host.Outcome State Fault Refusal :=
  whenRunning s (withBusTxn fun t s => if t.expiry = some s.timebase then waitExpired t s else s)

end Sys2Proof.Machine
end

