-- ==== Sys2Proof/Machine/Link.lean ====
section
/-! DEFINITION. The Triax Link (07_triax_link.md): good and failed blocks, loss, training, health, control record
assembly. -/

namespace Sys2Proof.Machine

/-- Changes the Triax Link. -/
def State.onLink (s : State) (f : Link → Link) : State := { s with link := f s.link }

/-- R115, R149: frames stop: the cell being sent is not finished, and a return record in progress is rewound. -/
def framesStop (s : State) : State :=
  { s with
    link := { s.link with framesRunning := false, cell := none, returnInFlight := false }
    mail := s.mail.rewind }

/-- R107, R110: the class, the runs and the pending ceiling when the link leaves UP. -/
def Link.leaveUp (k : Link) : Link :=
  { k with
    inForce := none
    scheduled := none
    ceiling := k.pendingCeiling.getD k.ceiling
    pendingCeiling := none
    badRun := 0
    cleanRun := 0
    failureRun := 0 }

/-! ### Control record assembly (R117 to R119) -/

/-- R118, R119: a HOST-MAIL record is dropped. -/
def dropMail (s : State) : State :=
  (s.countBus fun c => { c with inboxDropped := bump c.inboxDropped }).setFlag .inboxDropped

/-- Sets the assembly. -/
def setAssembly (a : Assembly) (s : State) : State := s.onLink fun k => { k with assembly := a }

/-- A record that begins (R117). -/
def RecordIn.fresh : RecordIn := ⟨[], 0, [], checkInit, 0⟩

/-- The destinations of a control record (section 10.7). -/
inductive Destination where
  | boardForward | hostMail | unknown
deriving DecidableEq, Repr

/-- The destination a record's header names. -/
def RecordIn.destination (r : RecordIn) : Destination :=
  match r.header with
  | d :: _ => if d = 0x01 then .boardForward else if d = 0x02 then .hostMail else .unknown
  | [] => .unknown

/-- The body length a record's header names. -/
def RecordIn.bodyLen (r : RecordIn) : Nat :=
  match r.header with
  | [_, h, l] => (ofBe16 h l).toNat
  | _ => 0

/-- The header of a record is complete. -/
def RecordIn.headerIn (r : RecordIn) : Bool := r.header.length == 3

/-- R119: a complete HOST-MAIL record goes into the inbox, or is dropped. -/
def mailEnded (pass : Bool) (r : RecordIn) (s : State) : State :=
  if pass && s.mail.inbox.length < 8 then evalHold { s with mail := { s.mail with inbox := s.mail.inbox ++ [r.mail] } }
  else dropMail s

/-- R119: a record ends, whole or short; the assembly returns to IDLE. -/
def endRecord (r : RecordIn) (short : Bool) (s : State) : State :=
  let pass := !short && r.running == r.check
  let s1 := setAssembly .idle s
  if r.headerIn then
    match r.destination with
    | .boardForward => reportRecordEnd (if pass then .passed else .failed) s1
    | .hostMail => mailEnded pass r s1
    | .unknown => s1
  else s1

/-- R119: a record in assembly is abandoned. -/
def abandonRecord (s : State) : State :=
  match s.link.assembly with
  | .idle => s
  | .discarding => setAssembly .idle s
  | .collecting r =>
    let s1 := setAssembly .idle s
    if r.headerIn then
      match r.destination with
      | .boardForward => reportRecordEnd .abandoned s1
      | .hostMail => dropMail s1
      | .unknown => s1
    else s1

/-- R118: the 3 header bytes are in. -/
def routeRecord (r : RecordIn) (s : State) : State :=
  match r.destination with
  | .boardForward =>
    if s.bus.remoteOutstanding < 8 then setAssembly (.collecting r) (acceptRemote r.bodyLen s)
    else setAssembly .discarding (dropRemote s)
  | .hostMail => if r.bodyLen ≤ 64 then setAssembly (.collecting r) s else setAssembly .discarding (dropMail s)
  | .unknown => setAssembly .discarding s

/-- R117, R118: a payload byte of a record being collected: header, body, then the record check. Of an accepted BOARD-FORWARD
record every byte after the header is handed on, before the record's end is told (section 8.5). -/
def recordByte (r : RecordIn) (b : Byte) (s : State) : State :=
  let r1 := { r with count := r.count + 1 }
  if r.count < 3 then
    let r2 := { r1 with header := r.header ++ [b], running := checkByte r.running b }
    if r2.count = 3 then routeRecord r2 s else setAssembly (.collecting r2) s
  else if r.count < 3 + r.bodyLen then
    let r2 := { r1 with running := checkByte r.running b }
    match r.destination with
    | .hostMail => setAssembly (.collecting { r2 with mail := r.mail ++ [b] }) s
    | .boardForward => feedRemote true b (setAssembly (.collecting r2) s)
    | .unknown => setAssembly (.collecting r2) s
  else
    let r2 := { r1 with check := (r.check <<< 8) ||| b.zeroExtend 16 }
    let s1 := setAssembly (.collecting r2) s
    let s2 := match r.destination with
      | .boardForward => feedRemote false b s1
      | .hostMail => s1
      | .unknown => s1
    if r2.count = 5 + r.bodyLen then endRecord r2 false s2 else s2

/-- R117: a payload byte is added while the assembly is COLLECTING; else it is discarded. -/
def payloadByte (s : State) (b : Byte) : State :=
  match s.link.assembly with
  | .collecting r => recordByte r b s
  | .idle => s
  | .discarding => s

/-- R117: the last mark ends what is still in assembly. A record that was dropped in this segment ends with it (DEDUCED,
assumption log 9). -/
def lastMark (s : State) : State :=
  match s.link.assembly with
  | .collecting r => endRecord r true s
  | .discarding => setAssembly .idle s
  | .idle => s

/-- R117: a SEGMENT block's payload, by its marks. -/
def takeSegment (marks len : Byte) (payload : List Byte) (s : State) : State :=
  if len.toNat = 0 ∨ 24 < len.toNat then s
  else
    let s1 := if marks.getLsbD 7 then setAssembly (.collecting RecordIn.fresh) (abandonRecord s) else s
    let s2 := (payload.take len.toNat).foldl payloadByte s1
    if marks.getLsbD 6 then lastMark s2 else s2

/-! ### Good and failed blocks, loss (R106, R107, R109) -/

/-- R106, R109: what every good block does before it is handed on by kind. 10 ms are 1,485,000 counts. -/
def goodBlock (s : State) : State :=
  s.onLink fun k =>
    { k with
      failureRun := 0
      silenceExpiry := some (later s.timebase 1485000)
      state := if k.state = .silent then .training else k.state
      answer := if k.state = .silent then .none else k.answer }

/-- R107: the link is lost. -/
def linkLoss (s : State) : State :=
  let s1 := framesStop (abandonRecord s)
  (s1.onLink fun k =>
    { k.leaveUp with
      state := .silent
      accepted := none
      answer := .none
      trainingExpiry := none
      silenceExpiry := none
      assembly := .idle }).setFlag .linkDown

/-- R106, R107: a failed block. -/
def takeFailedBlock (s : State) : State :=
  let s1 := (s.countLink fun c => { c with uplinkErrors := bump c.uplinkErrors }).setFlag .uplinkCheck
  let s2 := abandonRecord s1
  if s2.link.state = .silent then s2
  else
    let s3 := s2.onLink fun k => { k with failureRun := k.failureRun + 1 }
    if 16 ≤ s3.link.failureRun then linkLoss s3 else s3

/-! ### Training (R110, R111) -/

/-- R110: an OFFER of class k; 100 ms are 14,850,000 counts. -/
def takeOffer (k : Nat) (s : State) : State :=
  let s1 := if s.link.state = .up then
      (framesStop s).onLink fun l => { l.leaveUp with state := .training }
    else s
  s1.onLink fun l =>
    { l with
      accepted := some (min k l.ceiling)
      answer := .accept (min k l.ceiling)
      trainingExpiry := some (later s.timebase 14850000) }

/-- R111: a START of class k. -/
def takeStart (k : Nat) (s : State) : State :=
  s.onLink fun l =>
    match l.state with
    | .training =>
      if l.accepted = some k then
        { l with state := .up, scheduled := some k, trainingExpiry := none, badRun := 0, cleanRun := 0 }
      else { l with answer := .reject, accepted := none }
    | .up => l
    | .silent => l

/-- R111: the training expiry is reached. -/
def Link.trainingExpired (l : Link) : Link := { l with accepted := none, answer := .none, trainingExpiry := none }

/-! ### Health (R113, R114) -/

/-- R113: the runs after a health record while frames run. -/
def Link.judge (l : Link) (e : Nat) : Link :=
  if l.threshold < e then { l with badRun := l.badRun + 1, cleanRun := 0 }
  else if e = 0 then { l with badRun := 0, cleanRun := min (l.cleanRun + 1) 64 }
  else { l with badRun := 0, cleanRun := 0 }

/-- R114: the base class. -/
def Link.baseClass (l : Link) : Nat := (l.scheduled.orElse fun _ => l.inForce).getD 0

/-- R114: the limit. -/
def Link.limit (l : Link) : Nat := l.pendingCeiling.getD l.ceiling

/-- R114: a decision's new scheduled class, with both runs back to 0. -/
def Link.schedule (l : Link) (c : Option Nat) : Link := { l with scheduled := c, badRun := 0, cleanRun := 0 }

/-- R114: the decision after a health record. -/
def healthDecision (s : State) : State :=
  let l := s.link
  if 3 ≤ l.badRun then
    if 0 < l.baseClass then
      ((s.onLink fun l => l.schedule (some (l.baseClass - 1))).countLink fun c =>
        { c with stepsDown := bump c.stepsDown }).setFlag .steppedDown
    else (s.onLink fun l => l.schedule l.scheduled).setFlag .linkFloor
  else if 64 ≤ l.cleanRun ∧ l.baseClass < l.limit then
    (s.onLink fun l => l.schedule (some (l.baseClass + 1))).countLink fun c => { c with stepsUp := bump c.stepsUp }
  else s

/-- R113, R114: a health record of E errored cells. -/
def takeHealth (e : Nat) (s : State) : State :=
  let s1 := s.onLink fun l => { l with lastE := e }
  if s1.link.framesRunning then healthDecision (s1.onLink fun l => l.judge e) else s1

/-! ### The events of the link -/

/-- FAILED_BLOCK (R106). -/
def execFailedBlock (s : State) : Host.Outcome State Fault Refusal := whenRunning s takeFailedBlock

/-- OFFER (R106, R109, R110); a class above 5 is discarded. -/
def execOffer (cls : Byte) (s : State) : Host.Outcome State Fault Refusal :=
  whenRunning s fun s => if cls.toNat ≤ 5 then takeOffer cls.toNat (goodBlock s) else goodBlock s

/-- START (R106, R109, R111); a class above 5 is discarded. -/
def execStart (cls : Byte) (s : State) : Host.Outcome State Fault Refusal :=
  whenRunning s fun s => if cls.toNat ≤ 5 then takeStart cls.toNat (goodBlock s) else goodBlock s

/-- HEALTH (R106, R109, R113, R114). -/
def execHealth (errors : Word) (s : State) : Host.Outcome State Fault Refusal :=
  whenRunning s fun s => takeHealth errors.toNat (goodBlock s)

/-- UPLINK_IDLE (R106, R109): a good IDLE block, or a good block of unknown kind. -/
def execUplinkIdle (s : State) : Host.Outcome State Fault Refusal := whenRunning s goodBlock

/-- SEGMENT (R106, R109, R117 to R119). -/
def execSegment (marks len : Byte) (payload : List Byte) (s : State) : Host.Outcome State Fault Refusal :=
  whenRunning s fun s => takeSegment marks len payload (goodBlock s)

/-- SILENCE_EXPIRY (R107): the timebase reaches the silence expiry in TRAINING or UP; at another count there is no such event
(assumption log 3). -/
def execSilenceExpiry (s : State) : Host.Outcome State Fault Refusal :=
  whenRunning s fun s =>
    if s.link.silenceExpiry = some s.timebase ∧ s.link.state ≠ .silent then linkLoss s else s

/-- TRAINING_EXPIRY (R111): the timebase reaches the training expiry; at another count there is no such event (assumption
log 3). -/
def execTrainingExpiry (s : State) : Host.Outcome State Fault Refusal :=
  whenRunning s fun s =>
    if s.link.trainingExpiry = some s.timebase then s.onLink Link.trainingExpired else s

end Sys2Proof.Machine
end

