-- ==== Sys2Proof/Machine/Grid.lean ====
section
/-! DEFINITION. The Line Grid (01_line_grid_and_timebase.md): line starts, markers, realign, call phases. -/

namespace Sys2Proof.Machine

/-- Changes the Line Grid. -/
def State.onGrid (s : State) (f : Grid → Grid) : State := { s with grid := f s.grid }

/-! ### The grid at a line start (R3, R4, R8, R9, R10) -/

/-- What causes a line start: the prediction in FREE or HOLDOVER (R3), a fitting marker or the expiry of the fit window in
LOCKING or LOCKED (R4), or a realign with the frame marker's P and G (R8). -/
inductive LineCause where
  | predicted
  | fitted
  | flywheel
  | realign (period lines : Nat)
deriving DecidableEq, Repr

/-- The ending line is n = G − 1. -/
def Grid.atFrameEnd (g : Grid) : Bool := g.lines ≤ g.n + 1

/-- R10: the look back at the frame that has just ended, at a frame start that is no realign. -/
def Grid.lookBack (g : Grid) : Grid :=
  match g.state with
  | .locking =>
    if g.frameMiss then { g with frameMiss := false }
    else if g.lockRun + 1 < 2 then { g with lockRun := g.lockRun + 1, frameMiss := false }
    else { g with state := .locked, lockRun := 0, frameMiss := false }
  | .locked => { g with frameMiss := false }
  | .free => g
  | .holdover => g

/-- R9: n, N, tag, frame count, and in FREE at a frame start P and G, advance; the ending line's G decides the frame start. -/
def Grid.advance (g : Grid) (frameStart : Bool) : Grid :=
  if frameStart then
    { g with
      n := 0
      lineCount := g.lineCount + 1
      tag := g.tag + 1
      frameCount := g.frameCount + 1
      period := if g.state = .free then g.nomPeriod else g.period
      lines := if g.state = .free then g.nomLines else g.lines }
  else { g with n := g.n + 1, lineCount := g.lineCount + 1 }

/-- R4, R10: a miss. -/
def Grid.miss (g : Grid) : Grid :=
  if g.missRun + 1 < 8 then { g with missRun := g.missRun + 1, frameMiss := true, lockRun := 0 }
  else
    { g with
      state := match g.state with
        | .locked => .holdover
        | .locking => .free
        | .free => .free
        | .holdover => .holdover
      missRun := 0
      frameMiss := false
      lockRun := 0 }

/-- R10: a miss that takes the grid from LOCKED to HOLDOVER. -/
def Grid.losesMarkers (g : Grid) : Bool := g.state == .locked && 8 ≤ g.missRun + 1

/-- The new line's reference time and the prediction of the next. -/
def Grid.startAt (g : Grid) (ref : Time) : Grid :=
  { g with refTime := ref, prediction := later ref g.period }

/-- R8: the grid after a realign at `now`. -/
def Grid.realigned (g : Grid) (now : Time) (period lines : Nat) : Grid :=
  ({ g with
    state := .locking
    n := 0
    lineCount := g.lineCount + 1
    tag := g.tag + 1
    frameCount := g.frameCount + 1
    period := period
    lines := lines
    missRun := 0
    lockRun := 0
    frameMiss := false }).startAt now

/-- The grid before a line start's own miss: the look back, then the advance. The nominal P and G are taken in the state the
grid had before this line start's own miss (R10; DEDUCED, assumption log 7). -/
def Grid.advanced (g : Grid) : Grid :=
  let frameStart := g.atFrameEnd
  (if frameStart then g.lookBack else g).advance frameStart

/-- The grid's own part of a line start at `now`. -/
def Grid.atLineStart (g : Grid) (now : Time) : LineCause → Grid
  | .predicted => g.advanced.startAt g.prediction
  | .fitted => { g.advanced with missRun := 0 }.startAt now
  | .flywheel => g.advanced.miss.startAt g.prediction
  | .realign period lines => g.realigned now period lines

/-- The line start begins a frame. -/
def LineCause.startsFrame (c : LineCause) (g : Grid) : Bool :=
  match c with
  | .realign _ _ => true
  | .predicted => g.atFrameEnd
  | .fitted => g.atFrameEnd
  | .flywheel => g.atFrameEnd

/-- The line start is a realign. -/
def LineCause.isRealign : LineCause → Bool
  | .realign _ _ => true
  | .predicted => false
  | .fitted => false
  | .flywheel => false

/-- The counts and flags of a line start's cause (R4, R8, R10). -/
def countCause (c : LineCause) (g : Grid) (s : State) : State :=
  match c with
  | .realign _ _ => s.setFlag .realigned
  | .flywheel =>
    (s.countLink fun k => { k with markerMisses := bump k.markerMisses }).setFlagIf
      (g.advanced.losesMarkers) .markerLost
  | .predicted => s
  | .fitted => s

/-- R11: the line-start notice. -/
def Grid.notice (g : Grid) (frameStart realign : Bool) : LineNotice where
  n := g.n
  lineCount := g.lineCount
  refTime := g.refTime
  period := g.period
  lines := g.lines
  imageLines := g.imageLines
  delay := g.delay
  tag := g.tag
  frameStart := frameStart
  realign := realign

/-- R12: the frame-start notice. -/
def Grid.frameNotice (g : Grid) (realign : Bool) : FrameNotice where
  tag := g.tag
  frameCount := g.frameCount
  period := g.period
  lines := g.lines
  realign := realign

/-! ### Call phases (R13, R64, R65) -/

/-- R13: nominal phase plus trim, limited to 0 … P − 1. -/
def callPhase (period nominal : Nat) (trim : Int) : Nat := min ((nominal : Int) + trim).toNat (period - 1)

/-- R13: the call phase of a port is worked out and its call set up. -/
def setUpCall (nt : LineNotice) (p : PortId) (s : State) : State :=
  let phase := callPhase nt.period (s.port p).settings.phase (s.port p).servo.trim
  s.onGrid fun g =>
    { g with
      phase := g.phase.set p phase
      due := g.due.set p (some ⟨later nt.refTime phase, nt.n, nt.tag, nt.lineCount, nt.refTime⟩) }

/-- R13: a call whose due time the line start's moment has passed falls due at the line start, after its notice. -/
def deliverPassed (p : PortId) (s : State) : State :=
  match s.grid.due.get p with
  | some d => if before d.time s.timebase then deliverCall p s else s
  | none => s

/-- R13: the calls of the new line. -/
def setUpCalls (nt : LineNotice) (s : State) : State :=
  if nt.n < nt.imageLines then forPorts deliverPassed (forPorts (setUpCall nt) s)
  else s

/-! ### The line start (R3, R4, R8, R11, R12, R13, R86) -/

/-- R13: what becomes of calls that have not fallen due: they fall due before the new line's notice, or a realign abandons
them. -/
def settleCalls (c : LineCause) (s : State) : State :=
  if c.isRealign then s.onGrid fun g => { g with due := Quad.const none } else forPorts deliverCall s

/-- A line start as one event: the calls of the ending line, the grid, the frame-start notice, the line-start notice in the
lanes and servos and in the engine, the period's composition, and the calls of the new line. Blocks that take the notice in
either order act on separate state (R11); the order of the engine's take and a call that falls due at the line start is a
DESIGN CHOICE (assumption log 8). -/
def lineStart (c : LineCause) (s : State) : State :=
  let s0 := settleCalls c s
  let startsFrame := c.startsFrame s0.grid
  let s1 := countCause c s0.grid (s0.onGrid fun g => g.atLineStart s0.timebase c)
  let s2 := if startsFrame then frameStart (s1.grid.frameNotice c.isRealign) s1 else s1
  let nt := s2.grid.notice startsFrame c.isRealign
  let s3 := forPorts (portNotice nt) s2
  let s4 := forPorts (enginePort nt) s3
  setUpCalls nt (composePeriod nt s4)

/-! ### Markers (R4 to R8) -/

/-- The grid waits for markers: LOCKING or LOCKED. -/
def Grid.awaitsMarkers (g : Grid) : Bool :=
  match g.state with
  | .locking => true
  | .locked => true
  | .free => false
  | .holdover => false

/-- R5: a line marker. -/
def lineMarker (s : State) : State :=
  if s.grid.awaitsMarkers && fitsPrediction s.timebase s.grid.prediction && !s.grid.atFrameEnd then lineStart .fitted s else s

/-- R6: the marker's P and G are valid. -/
def Grid.validMarker (g : Grid) (period lines : Nat) : Bool :=
  1000 ≤ period && period ≤ 8191 && g.imageLines + g.delay ≤ lines && lines ≤ 4095

/-- R7: a valid frame marker is on time. -/
def Grid.onTime (g : Grid) (now : Time) (period lines : Nat) : Bool :=
  g.awaitsMarkers && g.atFrameEnd && fitsPrediction now g.prediction && period == g.period && lines == g.lines

/-- R6, R7, R8: a frame marker. -/
def frameMarker (period lines : Nat) (s : State) : State :=
  if s.grid.validMarker period lines then
    if s.grid.onTime s.timebase period lines then lineStart .fitted s else lineStart (.realign period lines) s
  else s.setFlag .gridMismatch

/-- R108: a marker reaches the grid; bits 7 to 1 of the marker byte are not read (section 10.7). -/
def takeMarker (m : Byte) (period lines : Word) (s : State) : State :=
  if m.getLsbD 0 then frameMarker period.toNat lines.toNat s else lineMarker s

/-! ### The events of the grid -/

/-- PREDICTION_LINE_START (R3): in FREE or HOLDOVER the timebase reaches the prediction; else there is no such event
(assumption log 3). -/
def execPredictionLineStart (s : State) : Host.Outcome State Fault Refusal :=
  whenRunning s fun s =>
    if !s.grid.awaitsMarkers && s.timebase == s.grid.prediction then lineStart .predicted s else s

/-- FIT_WINDOW_EXPIRY (R4): in LOCKING or LOCKED the timebase reaches the prediction + 8; else there is no such event
(assumption log 3). -/
def execFitWindowExpiry (s : State) : Host.Outcome State Fault Refusal :=
  whenRunning s fun s =>
    if s.grid.awaitsMarkers && s.timebase == s.grid.prediction + 8 then lineStart .flywheel s else s

/-- MARKER (R106, R108, R5 to R8). -/
def execMarker (m : Byte) (period lines : Word) (s : State) : Host.Outcome State Fault Refusal :=
  whenRunning s fun s => takeMarker m period lines (goodBlock s)

end Sys2Proof.Machine
end

