-- ==== Sys2Proof/Machine/Perform.lean ====
section
/-! DEFINITION. What each request kind does at its dispatch after the generic checks (R155): its own checks, its effect and
its reply body, each as the chapter of its block specifies. -/

namespace Sys2Proof.Machine

/-- A request's end: the state it leaves, the outcome and the reply body; `thenReset` marks the DONE of a RESTART. -/
structure Answered where
  state     : State
  outcome   : ReqOutcome
  body      : List Byte
  thenReset : Bool
deriving DecidableEq, Repr

/-- A refused request: an empty reply body (R155). -/
def refused (s : State) (o : ReqOutcome) : Answered := ⟨s, o, [], false⟩

/-- A request that is taken. -/
def done (s : State) (body : List Byte) : Answered := ⟨s, .done, body, false⟩

/-! ### Management, flags and counters (R158, R159, R163, R164, R166) -/

/-- IDENTIFY (R158): part code 0x0418, revision code 0x01, unique number. -/
def doIdentify (s : State) : Answered := done s (be16 0x0418 ++ [0x01] ++ be64 Config.uniqueNumber)

/-- READ-STATUS (R163): the state set and the mask set. -/
def doReadStatus (s : State) : Answered := done s (be64 s.stateSet ++ be64 s.flagUnit.masks)

/-- The marks of a list of flag numbers. -/
def marksOf (numbers : List Byte) : BitVec 64 := numbers.foldl (fun m k => m ||| mark k.toNat) 0

/-- CLEAR-FLAGS (R164): the named flags, or all of them for none; a number above 48 is refused with RANGE. POWER_ON cleared
may let the remote head go to the bus (R130, R131). -/
def doClearFlags (numbers : List Byte) (s : State) : Answered :=
  if numbers.any fun k => 48 < k.toNat then refused s .range
  else
    let kept := if numbers.isEmpty then 0 else s.flagUnit.flags &&& ~~~marksOf numbers
    done (settleBus { s with flagUnit := { s.flagUnit with flags := kept } }) []

/-- SET-ATTN-MASK (R163): marks that name nothing are not read. -/
def doSetAttnMask (marks : BitVec 64) (s : State) : Answered :=
  done { s with flagUnit := { s.flagUnit with masks := marks &&& namedMarks } } []

/-- R165: a counter group's values by its code. -/
def groupValues (u : FlagUnit) : Nat → Option (List Word)
  | 0 => some u.ports.p0.values
  | 1 => some u.ports.p1.values
  | 2 => some u.ports.p2.values
  | 3 => some u.ports.p3.values
  | 4 => some u.link.values
  | 5 => some u.bus.values
  | _ => none

/-- R166: every counter of a group at 0. -/
def zeroGroup (u : FlagUnit) (code : Nat) : FlagUnit :=
  match code with
  | 4 => { u with link := ⟨0, 0, 0, 0⟩ }
  | 5 => { u with bus := ⟨0, 0, 0, 0, 0⟩ }
  | k =>
    match PortId.ofNat? k with
    | some p => { u with ports := u.ports.set p PortCounters.reset }
    | none => u

/-- READ-COUNTERS (R166): action 0 PEEK, 1 ZERO. -/
def doReadCounters (group action : Byte) (s : State) : Answered :=
  match groupValues s.flagUnit group.toNat with
  | some values =>
    if 1 < action.toNat then refused s .range
    else done (if action = 1 then { s with flagUnit := zeroGroup s.flagUnit group.toNat } else s) (wordBytes values)
  | none => refused s .range

/-- RESTART (R141, R159): BUSY with RESTART_REFUSED while a transaction occupies the bus; else DONE and granting stops. -/
def doRestart (s : State) : Answered :=
  if s.bus.txn.isSome then refused (s.setFlag .restartRefused) .busy
  else ⟨s.onBus fun b => { b with grantingStopped := true }, .done, [], true⟩

/-! ### Line Grid (R16, R17) -/

/-- SET-TIMING (R16). -/
def doSetTiming (imageLines : Word) (delay : Byte) (period lines : Word) (s : State) : Answered :=
  if PortId.all.any fun p => (s.port p).settings.enabled then refused s .state
  else if 16 ≤ imageLines.toNat ∧ imageLines.toNat ≤ 4095 ∧ 1 ≤ delay.toNat ∧ delay.toNat ≤ 8
      ∧ 1000 ≤ period.toNat ∧ period.toNat ≤ 8191 ∧ 16 ≤ lines.toNat ∧ lines.toNat ≤ 4095
      ∧ imageLines.toNat + delay.toNat ≤ lines.toNat ∧ imageLines.toNat + delay.toNat ≤ s.grid.lines then
    done (s.onGrid fun g =>
      { g with
        imageLines := imageLines.toNat
        delay := delay.toNat
        nomPeriod := period.toNat
        nomLines := lines.toNat }) []
  else refused s .range

/-- READ-GRID (R17). -/
def doReadGrid (s : State) : Answered :=
  let g := s.grid
  done s ([g.state.code.zeroExtend 8] ++ be16n g.period ++ be16n g.lines ++ be16n g.n ++ be32 g.lineCount
    ++ be32 g.frameCount ++ [g.tag.zeroExtend 8, byteOf g.missRun, byteOf g.lockRun] ++ be16n g.imageLines
    ++ [byteOf g.delay] ++ be16n g.nomPeriod ++ be16n g.nomLines)

/-! ### Ports (R23 to R26, R68) -/

/-- R23 step 2: the request changes a setting that is fixed while the port is enabled. -/
def Settings.shapeDiffers (old new : Settings) : Bool :=
  old.lineLen != new.lineLen || old.boardId != new.boardId || old.resume != new.resume || old.capture != new.capture

/-- R25, R55: a port after it is disabled. -/
def Port.disabled (q : Port) : Port :=
  { q with
    callList := []
    store := q.store.flush
    withhold := .opened
    lane := { q.lane with rx := match q.lane.rx with
      | .waiting => .waiting
      | .header _ => .discarding
      | .storing _ => .discarding
      | .discarding => .discarding } }

/-- R23: a SET-PORT that is taken writes every setting and clears the accumulator; R25, R102: a port it disables is
emptied, and its SENDING mark becomes none. -/
def applySettings (p : PortId) (new : Settings) (s : State) : State :=
  let disables := (s.port p).settings.enabled && !new.enabled
  let s1 := s.onPort p fun q => { q with settings := new, servo := q.servo.clear }
  if disables then setSending p none (s1.onPort p Port.disabled) else s1

/-- R23: the checks of SET-PORT after its ranges, in their order. -/
def checkSettings (s : State) (p : PortId) (new : Settings) : Option ReqOutcome :=
  let old := (s.port p).settings
  if old.enabled && old.shapeDiffers new then some .state
  else if !old.enabled && new.enabled && 1024 < (s.grid.delay + 2) * new.lineLen then some .range
  else if !old.enabled && new.enabled && quotaOf s.table.active p < new.lineLen then some .nofit
  else none

/-- SET-PORT (R23 to R25). -/
def doSetPort (port : Byte) (f : PortFields) (s : State) : Answered :=
  match PortId.ofNat? port.toNat, f.settings? with
  | some p, some new =>
    match checkSettings s p new with
    | some o => refused s o
    | none => done (applySettings p new s) []
  | some _, none => refused s .range
  | none, _ => refused s .range

/-- R26: the code of a descriptor's state. -/
def DescState.code : DescState → Byte
  | .filling => 0
  | .complete => 1
  | .damaged => 2
  | .sending => 3

/-- R26: the oldest descriptor's fields; fields after a mark of 0 are sent as 0. -/
def oldestBytes : List Descriptor → List Byte
  | [] => List.replicate 12 0
  | d :: _ =>
    [1, d.tag.zeroExtend 8] ++ be16n d.line ++ be32 d.callCount ++ [d.state.code]
      ++ (match d.capture with
        | some a => 1 :: be16n a
        | none => [0, 0, 0])

/-- R26: the port's figures and settings. -/
def portBytes (q : Port) (phase : Nat) : List Byte :=
  [match q.lane.state with
    | .down => 0
    | .acquiring => 1
    | .up => 2,
   byteOfBool q.settings.enabled, byteOfBool (q.withhold == .withholding), byteOf q.store.ring.length]
    ++ be16n q.store.cellsHeld ++ be16n q.store.committed ++ [byteOf q.callList.length]
    ++ oldestBytes q.store.ring
    ++ be16i q.servo.trim ++ be16n phase ++ be16i q.servo.lastMean
    ++ [match q.servo.align with
        | .unknown => 0
        | .aligned => 1
        | .drifting => 2,
        byteOfBool (q.settings.mode == .track)]
    ++ q.settings.bytes

/-- READ-PORT (R26, R56, R69). -/
def doReadPort (port : Byte) (s : State) : Answered :=
  match PortId.ofNat? port.toNat with
  | some p => done s (portBytes (s.port p) (s.grid.phase.get p))
  | none => refused s .range

/-- SET-TRIM (R68). -/
def doSetTrim (port : Byte) (trim : Word) (s : State) : Answered :=
  match PortId.ofNat? port.toNat with
  | some p =>
    if -512 ≤ trim.toInt ∧ trim.toInt ≤ 511 then
      done (s.onPort p fun q => q.onServo fun v => { v.clear with trim := trim.toInt }) []
    else refused s .range
  | none => refused s .range

/-! ### Weave Table (R73, R74, R77, R83) -/

/-- R73: the STAGED bank after a write of `entries` at `first` with a new length. -/
def stagedAfter (bank : List SlotEntry) (first newLen : Nat) (entries : List SlotEntry) : List SlotEntry :=
  (bank.take first ++ entries ++ bank.drop (first + entries.length)).take newLen

/-- R73: the range checks that do not look at the entries. -/
def stageInRange (presentLen first newLen k : Nat) : Bool :=
  first ≤ 31 && 1 ≤ newLen && newLen ≤ 32 && k ≤ 32 && first + k ≤ newLen && first ≤ presentLen
    && !(presentLen < newLen && first + k < newLen)

/-- STAGE-SLOTS (R73). -/
def doStageSlots (first newLen : Byte) (entries : List SlotFields) (s : State) : Answered :=
  if s.table.commitPending then refused s .busy
  else if stageInRange s.table.staged.length first.toNat newLen.toNat entries.length then
    match entries.mapM SlotFields.entry? with
    | some es => done { s with table := { s.table with
        staged := stagedAfter s.table.staged first.toNat newLen.toNat es } } []
    | none => refused s .range
  else refused s .range

/-- R74: the reply body for a bank. -/
def bankBytes (s : State) (selector : Byte) (bank : List SlotEntry) : List Byte :=
  [selector, byteOf bank.length, s.table.generation, byteOfBool s.table.commitPending] ++ bank.flatMap SlotEntry.bytes

/-- READ-SLOTS (R74). -/
def doReadSlots (selector : Byte) (s : State) : Answered :=
  if selector = 0 then done s (bankBytes s selector s.table.staged)
  else if selector = 1 then done s (bankBytes s selector s.table.active)
  else refused s .range

/-- COMMIT-SLOTS (R77). -/
def doCommitSlots (s : State) : Answered :=
  if s.table.commitPending then refused s .busy
  else if stagedFits s (commitCapacity s) then done { s with table := { s.table with commitPending := true } } []
  else refused s .nofit

/-- R83: the cut state's two bytes. -/
def cutBytes : Option CutPoint → List Byte
  | some c => [byteOf c.index, byteOf c.cells]
  | none => [0xFF, 0]

/-- READ-WEAVE (R83). -/
def doReadWeave (s : State) : Answered :=
  done s ([byteOrNone s.engine.frameClass] ++ be16n (s.engine.capacity.getD 0) ++ be16n (commitCapacity s)
    ++ [byteOfBool s.table.commitPending, s.table.generation, byteOf s.table.active.length]
    ++ packMarks s.engine.shed ++ cutBytes s.engine.cut
    ++ PortId.all.flatMap fun p => be16n (quotaOf s.table.active p))

/-! ### Triax Link (R120, R121) -/

/-- R120 step 2: the new ceiling m. -/
def Link.applyCeiling (l : Link) (m : Nat) : Link :=
  if l.framesRunning ∧ m < l.inForce.getD 0 then { l with pendingCeiling := some m, scheduled := some m }
  else
    { l with
      ceiling := m
      pendingCeiling := none
      scheduled := match l.scheduled with
        | some c => if m < c then (if l.inForce = some m then none else some m) else some c
        | none => none }

/-- R120 step 3: an open accepted class above the ceiling. -/
def Link.limitAccepted (l : Link) : Link :=
  match l.accepted with
  | some c =>
    if l.ceiling < c then
      if l.state = .up ∧ l.framesRunning = false then { l with accepted := some l.ceiling, answer := .accept l.ceiling }
      else { l with accepted := none, answer := .none }
    else l
  | none => l

/-- SET-LINK (R120). -/
def doSetLink (ceiling : Byte) (threshold : Word) (s : State) : Answered :=
  if ceiling.toNat ≤ 5 then
    done (s.onLink fun l => (({ l with threshold := threshold.toNat }).applyCeiling ceiling.toNat).limitAccepted) []
  else refused s .range

/-- READ-LINK (R121). -/
def doReadLink (s : State) : Answered :=
  let l := s.link
  done s ([l.state.code.zeroExtend 8, byteOfBool l.framesRunning, byteOrNone l.inForce, byteOrNone l.scheduled,
      byteOf l.ceiling, byteOrNone l.pendingCeiling, byteOrNone l.accepted] ++ be16n l.threshold
    ++ [byteOf l.badRun, byteOf l.cleanRun] ++ be16n l.lastE
    ++ [byteOf l.failureRun, match l.assembly with
        | .idle => 0
        | .collecting _ => 1
        | .discarding => 2])

/-! ### Board bus (R126, R133, R139, R140) -/

/-- The transaction of a FORWARD. -/
def localTxn (f : ForwardFields) : Txn := ⟨.toLocal, f.tag, f.board, f.kind, 0, 0, f.start, f.count, f.words⟩

/-- FORWARD (R126). -/
def doForward (f : ForwardFields) (s : State) : Answered :=
  if !(localTxn f).wellFormed then refused s .range
  else if 8 ≤ s.bus.localOutstanding then refused s .full
  else
    let s1 := s.onBus fun b => { b with localQueue := b.localQueue ++ [localTxn f] }
    done (settleBus s1) [byteOf s1.bus.localOutstanding]

/-- FETCH-REPLIES (R139). -/
def doFetchReplies (n : Byte) (s : State) : Answered :=
  if 1 ≤ n.toNat ∧ n.toNat ≤ 4 then
    match s.bus.localReplies with
    | [] => refused s .empty
    | r :: rest =>
      let taken := (r :: rest).take n.toNat
      done (s.onBus fun b => { b with localReplies := (r :: rest).drop n.toNat })
        (byteOf taken.length :: taken.flatMap BusReply.fetchBytes)
  else refused s .range

/-- SET-GATE (R133). -/
def doSetGate (mode : Byte) (s : State) : Answered :=
  match mode.toNat with
  | 0 => done (s.onBus fun b => { b with gate := .shut, permit := false }) []
  | 1 => done (s.onBus fun b => { b with gate := .single, permit := true }) []
  | 2 => done (s.onBus fun b => { b with gate := .opened, permit := false }) []
  | _ => refused s .range

/-- SET-BUS (R140). -/
def doSetBus (timeout : Word) (replyMark : Byte) (s : State) : Answered :=
  if 10 ≤ timeout.toNat ∧ timeout.toNat ≤ 1000 ∧ 1 ≤ replyMark.toNat ∧ replyMark.toNat ≤ 8 then
    done (s.onBus fun b => { b with answerTimeout := timeout.toNat, replyMark := replyMark.toNat }) []
  else refused s .range

/-! ### Ancillary Buffer and Mailboxes (R143, R144, R147) -/

/-- The repeat windows of R142. -/
def repeatWindows : List Nat := [32, 64, 128, 256, 512, 1024, 2048, 4096]

/-- ANC-MODE (R143). -/
def doAncMode (mode : Byte) (window : Word) (s : State) : Answered :=
  if mode.toNat ≤ 1 ∧ window.toNat ∈ repeatWindows then
    done { s with anc := { s.anc with
      mode := if mode = 1 then .repeating else .stream
      window := window.toNat
      fill := 0
      readPoint := 0
      repeatPos := 0
      allowance := 0 } } []
  else refused s .range

/-- ANC-LOAD (R144). -/
def doAncLoad (offset : Word) (bytes : List Byte) (s : State) : Answered :=
  match s.anc.mode with
  | .stream =>
    if 4096 < s.anc.fill + bytes.length then refused s .full
    else
      done { s with anc := { s.anc with
        store := Memory.writeRing 4096 s.anc.store ((s.anc.readPoint + s.anc.fill) % 4096) bytes
        fill := s.anc.fill + bytes.length } } (be16n (s.anc.fill + bytes.length))
  | .repeating =>
    if 4096 < offset.toNat + bytes.length then refused s .range
    else done { s with anc := { s.anc with store := Memory.writeList s.anc.store offset.toNat bytes } } (be16n s.anc.fill)

/-- MAIL-SEND (R147). -/
def doMailSend (body : List Byte) (s : State) : Answered :=
  if 8 ≤ s.mail.outbox.length then refused s .full
  else done { s with mail := { s.mail with outbox := s.mail.outbox ++ [body] } } [byteOf (s.mail.outbox.length + 1)]

/-- MAIL-FETCH (R147); HOLD is re-evaluated (R150). -/
def doMailFetch (s : State) : Answered :=
  match s.mail.inbox with
  | [] => refused s .empty
  | m :: rest => done (evalHold { s with mail := { s.mail with inbox := rest } }) (byteOf rest.length :: m)

/-- What a request does at its dispatch. -/
def perform (q : Request) (s : State) : Answered :=
  match q with
  | .identify => doIdentify s
  | .readStatus => doReadStatus s
  | .clearFlags ns => doClearFlags ns s
  | .setAttnMask m => doSetAttnMask m s
  | .readCounters g a => doReadCounters g a s
  | .restart => doRestart s
  | .setTiming f d p g => doSetTiming f d p g s
  | .readGrid => doReadGrid s
  | .setPort p f => doSetPort p f s
  | .readPort p => doReadPort p s
  | .setTrim p t => doSetTrim p t s
  | .stageSlots f l es => doStageSlots f l es s
  | .readSlots b => doReadSlots b s
  | .commitSlots => doCommitSlots s
  | .readWeave => doReadWeave s
  | .setLink c t => doSetLink c t s
  | .readLink => doReadLink s
  | .forward f => doForward f s
  | .fetchReplies n => doFetchReplies n s
  | .setGate m => doSetGate m s
  | .setBus t m => doSetBus t m s
  | .ancMode m w => doAncMode m w s
  | .ancLoad o bs => doAncLoad o bs s
  | .mailSend b => doMailSend b s
  | .mailFetch => doMailFetch s

end Sys2Proof.Machine
end

