-- ==== Sys2Proof/Machine/Mgmt.lean ====
section
/-! DEFINITION. Resets (section 5.8, R159) and the Management Port (10_management_records.md): receiving, dispatch, reply
end. -/

namespace Sys2Proof.Machine

/-! ### Resets -/

/-- A port after a reset: its reset values; the pin's signal stays and, when the part runs, moves the lane on to ACQUIRING
at once (R18); the bytes of the cell pool are not cleared (R39). -/
def Port.afterReset (p : PortId) (resetLow : Bool) (old : Port) : Port :=
  let fresh := Port.reset p
  let lane := { fresh.lane with signal := old.lane.signal }
  { fresh with
    lane := if old.lane.signal && !resetLow then lane.startAcquiring else lane
    store := { fresh.store with pool := old.store.pool } }

/-- Every block other than the Management Port takes its reset values (R159); the queue of waiting commands is no part of
the hardware and stays. -/
def resetBlocks (resetLow : Bool) (s : State) : State :=
  { State.reset with
    resetLow := resetLow
    ports := ⟨(s.port .p0).afterReset .p0 resetLow, (s.port .p1).afterReset .p1 resetLow,
      (s.port .p2).afterReset .p2 resetLow, (s.port .p3).afterReset .p3 resetLow⟩
    mgmt := s.mgmt
    pending := s.pending }

/-- R159: the reset of a RESTART takes effect: the line rate and the holding area are kept. -/
def restartReset (s : State) : State :=
  { resetBlocks s.resetLow s with mgmt := { s.mgmt with rx := .hunting, gapExpiry := none, reply := none } }

/-- R151: the line rate the straps RATE1 (bit 1) and RATE0 (bit 0) select. -/
def LineRate.ofStraps (straps : BitVec 2) : LineRate :=
  match straps.getLsbD 1, straps.getLsbD 0 with
  | false, false => .baud115200
  | false, true => .baud460800
  | true, false => .baud921600
  | true, true => .baud3000000

/-- The baud of a line rate (section 6). -/
def LineRate.baud : LineRate → Nat
  | .baud115200 => 115200
  | .baud460800 => 460800
  | .baud921600 => 921600
  | .baud3000000 => 3000000

/-- The parts of a byte on the management line: a character is a start bit, 8 data bits and a stop bit (R151), the line sends
a number of bits in a second that its rate gives, and the timebase 148,500,000 counts; so one count moves the line on by as
many parts as the rate has bits, and a byte has 10 × 148,500,000 of them. -/
def byteParts : Nat := 1485000000

/-- R151, R156: a reply's bytes go out back to back at the line rate: the reply in progress one count of the timebase on. -/
def ReplyOut.oneCount (r : ReplyOut) (rate : LineRate) : ReplyOut :=
  if r.sent < r.record.length then
    if r.progress + rate.baud < byteParts then { r with progress := r.progress + rate.baud }
    else { r with sent := r.sent + 1, progress := r.progress + rate.baud - byteParts }
  else r

/-- POWER_ON (section 5.8, R151, R160): every block takes its reset values. While RESETN is held low the part stays so; the
straps are read when RESETN rises or the supply comes up. -/
def powerOn (resetn : ResetPin) (straps : BitVec 2) (s : State) : State :=
  match resetn with
  | .heldLow => { resetBlocks true s with mgmt := { MgmtPort.reset with rate := s.mgmt.rate } }
  | .released => { resetBlocks false s with mgmt := { MgmtPort.reset with rate := LineRate.ofStraps straps } }

/-! ### Dispatch and reply (R155, R156) -/

/-- R156: the reply is composed from the state the request leaves, and its sending starts. -/
def sendReply (kind : Byte) (a : Answered) : State :=
  { a.state with mgmt := { a.state.mgmt with
    reply := some ⟨replyBytes kind a.outcome a.state.summary a.body, 0, 0, a.thenReset⟩ } }

/-- R155: a request record is dispatched: the generic checks, the request's own checks and effect, and the reply. -/
def dispatch (r : ReqRecord) (s : State) : State :=
  match parseRecord r with
  | .ok q => sendReply r.kind (perform q s)
  | .error o => sendReply r.kind (refused s o)

/-- R154: a complete record is dispatched at once, held behind the reply in progress, or discarded with MGMT_OVERRUN. -/
def recordComplete (r : ReqRecord) (s : State) : State :=
  match s.mgmt.reply with
  | none => dispatch r s
  | some _ =>
    match s.mgmt.holding with
    | none => { s with mgmt := { s.mgmt with holding := some r } }
    | some _ => s.setFlag .mgmtOverrun

/-- R154: the held request is dispatched. -/
def dispatchHeld (s : State) : State :=
  match s.mgmt.holding with
  | some r => dispatch r { s with mgmt := { s.mgmt with holding := none } }
  | none => s

/-- R154, R159: the last byte of the reply in progress is sent; the reset of a RESTART takes effect; the held request is
dispatched. -/
def replyEnds (r : ReplyOut) (s : State) : State :=
  let s1 := { s with mgmt := { s.mgmt with reply := none } }
  dispatchHeld (if r.thenReset then restartReset s1 else s1)

/-! ### Receiving (R152, R153) -/

/-- Sets the receiver and its gap expiry. -/
def setReceiver (rx : Receiver) (gap : Option Time) (s : State) : State :=
  { s with mgmt := { s.mgmt with rx := rx, gapExpiry := gap } }

/-- What a record's bytes so far amount to (R152). -/
inductive RecordShape where
  | partly
  | overlong
  | complete (record : ReqRecord)
deriving DecidableEq, Repr

/-- R152: the record's shape: lead byte, kind, body length, body, check. -/
def recordShape (bytes : List Byte) : RecordShape :=
  match bytes with
  | _ :: kind :: h :: l :: rest =>
    let n := (ofBe16 h l).toNat
    if 512 < n then .overlong
    else if rest.length < n + 2 then .partly
    else .complete ⟨kind, rest.take n, rest.drop n = be16 (checkOf (bytes.take (4 + n)))⟩
  | _ => .partly

/-- R152, R153: a byte collected in RECEIVING; the gap expiry is 2 ms, 297,000 counts, after it. -/
def collectByte (bytes : List Byte) (b : Byte) (s : State) : State :=
  match recordShape (bytes ++ [b]) with
  | .partly => setReceiver (.receiving (bytes ++ [b])) (some (later s.timebase 297000)) s
  | .overlong => (setReceiver .hunting none s).setFlag .mgmtFraming
  | .complete r => recordComplete r (setReceiver .hunting none s)

/-- R152: a character arrives on MRX. -/
def takeByte (b : Byte) (s : State) : State :=
  match s.mgmt.rx with
  | .hunting => if b = 0xC3 then setReceiver (.receiving [b]) (some (later s.timebase 297000)) s else s
  | .receiving bytes => collectByte bytes b s

/-- R153: the gap expiry is reached in RECEIVING. -/
def gapExpired (s : State) : State := (setReceiver .hunting none s).setFlag .mgmtFraming

/-! ### The events of the port -/

/-- POWER_ON (section 5.8, R151, R160). -/
def execPowerOn (resetn : ResetPin) (straps : BitVec 2) (s : State) : Host.Outcome State Fault Refusal :=
  .next (powerOn resetn straps s)

/-- MGMT_BYTE (R152, R154). -/
def execMgmtByte (b : Byte) (s : State) : Host.Outcome State Fault Refusal := whenRunning s (takeByte b)

/-- GAP_EXPIRY (R153): the timebase reaches the gap expiry; at another count there is no such event (assumption log 3). -/
def execGapExpiry (s : State) : Host.Outcome State Fault Refusal :=
  whenRunning s fun s => if s.mgmt.gapExpiry = some s.timebase then gapExpired s else s

/-- REPLY_END (R154, R159): the last byte of the reply in progress has been sent, whatever the model's own count of its bytes
had come to (assumption log 16); with no reply in progress there is no such event (assumption log 3). -/
def execReplyEnd (s : State) : Host.Outcome State Fault Refusal :=
  whenRunning s fun s =>
    match s.mgmt.reply with
    | some r => replyEnds r s
    | none => s

end Sys2Proof.Machine
end

