-- ==== Sys2Proof/Machine/Requests.lean ====
section
/-! DEFINITION. The request rows of the command table: a complete request record of that kind, its check passed, reaches the
Management Port (R154): it is dispatched at once while no reply is in progress, else held or discarded (assumption log 11).
What its dispatch does is in Machine/Perform.lean. -/

namespace Sys2Proof.Machine

/-- A request record with a good check completes (R154). The row brings the record whole, past the receiver: bytes of another
record that MGMT_BYTE has brought so far, and their gap expiry, stay as they are (DESIGN CHOICE, assumption log 33). -/
def requestArrives (q : Request) (s : State) : Host.Outcome State Fault Refusal :=
  whenRunning s (recordComplete q.record)

/-- UNKNOWN_KIND (R155): a record whose kind is not in the catalogue. -/
def execUnknownKind (kind : Byte) (body : List Byte) (s : State) : Host.Outcome State Fault Refusal :=
  whenRunning s (recordComplete ⟨kind, body, true⟩)

/-- IDENTIFY (R158). -/
def execIdentify (s : State) : Host.Outcome State Fault Refusal := requestArrives .identify s

/-- READ_STATUS (R163). -/
def execReadStatus (s : State) : Host.Outcome State Fault Refusal := requestArrives .readStatus s

/-- CLEAR_FLAGS (R164). -/
def execClearFlags (numbers : List Byte) (s : State) : Host.Outcome State Fault Refusal :=
    requestArrives (.clearFlags numbers) s

/-- SET_ATTN_MASK (R163). -/
def execSetAttnMask (marks : BitVec 64) (s : State) : Host.Outcome State Fault Refusal :=
    requestArrives (.setAttnMask marks) s

/-- READ_COUNTERS (R166). -/
def execReadCounters (group : Byte) (action : Byte) (s : State) : Host.Outcome State Fault Refusal :=
    requestArrives (.readCounters group action) s

/-- RESTART (R159). -/
def execRestart (s : State) : Host.Outcome State Fault Refusal := requestArrives .restart s

/-- SET_TIMING (R16). -/
def execSetTiming (imageLines : Word) (delay : Byte) (period : Word) (lines : Word)
    (s : State) : Host.Outcome State Fault Refusal :=
  requestArrives (.setTiming imageLines delay period lines) s

/-- READ_GRID (R17). -/
def execReadGrid (s : State) : Host.Outcome State Fault Refusal := requestArrives .readGrid s

/-- SET_PORT (R23). -/
def execSetPort (port : Byte) (fields : PortFields) (s : State) : Host.Outcome State Fault Refusal :=
    requestArrives (.setPort port fields) s

/-- READ_PORT (R26). -/
def execReadPort (port : Byte) (s : State) : Host.Outcome State Fault Refusal := requestArrives (.readPort port) s

/-- SET_TRIM (R68). -/
def execSetTrim (port : Byte) (trim : Word) (s : State) : Host.Outcome State Fault Refusal :=
    requestArrives (.setTrim port trim) s

/-- STAGE_SLOTS (R73). -/
def execStageSlots (first : Byte) (newLen : Byte) (entries : List SlotFields)
    (s : State) : Host.Outcome State Fault Refusal :=
  requestArrives (.stageSlots first newLen entries) s

/-- READ_SLOTS (R74). -/
def execReadSlots (selector : Byte) (s : State) : Host.Outcome State Fault Refusal :=
    requestArrives (.readSlots selector) s

/-- COMMIT_SLOTS (R77). -/
def execCommitSlots (s : State) : Host.Outcome State Fault Refusal := requestArrives .commitSlots s

/-- READ_WEAVE (R83). -/
def execReadWeave (s : State) : Host.Outcome State Fault Refusal := requestArrives .readWeave s

/-- SET_LINK (R120). -/
def execSetLink (ceiling : Byte) (threshold : Word) (s : State) : Host.Outcome State Fault Refusal :=
    requestArrives (.setLink ceiling threshold) s

/-- READ_LINK (R121). -/
def execReadLink (s : State) : Host.Outcome State Fault Refusal := requestArrives .readLink s

/-- FORWARD (R126). -/
def execForward (fields : ForwardFields) (s : State) : Host.Outcome State Fault Refusal :=
    requestArrives (.forward fields) s

/-- FETCH_REPLIES (R139). -/
def execFetchReplies (n : Byte) (s : State) : Host.Outcome State Fault Refusal := requestArrives (.fetchReplies n) s

/-- SET_GATE (R133). -/
def execSetGate (mode : Byte) (s : State) : Host.Outcome State Fault Refusal := requestArrives (.setGate mode) s

/-- SET_BUS (R140). -/
def execSetBus (timeout : Word) (mark : Byte) (s : State) : Host.Outcome State Fault Refusal :=
    requestArrives (.setBus timeout mark) s

/-- ANC_MODE (R143). -/
def execAncMode (mode : Byte) (window : Word) (s : State) : Host.Outcome State Fault Refusal :=
    requestArrives (.ancMode mode window) s

/-- ANC_LOAD (R144). -/
def execAncLoad (offset : Word) (bytes : List Byte) (s : State) : Host.Outcome State Fault Refusal :=
    requestArrives (.ancLoad offset bytes) s

/-- MAIL_SEND (R147). -/
def execMailSend (body : List Byte) (s : State) : Host.Outcome State Fault Refusal := requestArrives (.mailSend body) s

/-- MAIL_FETCH (R147). -/
def execMailFetch (s : State) : Host.Outcome State Fault Refusal := requestArrives .mailFetch s

end Sys2Proof.Machine
end

