-- ==== Sys2Proof/Machine/Dispatch.lean ====
section
/-! DEFINITION. One arm for each command. -/

namespace Sys2Proof.Machine

def exec (i : Instr) (s : State) : Host.Outcome State Fault Refusal :=
  match i with
  | .powerOn resetn straps => Sys2Proof.Machine.execPowerOn resetn straps s
  | .predictionLineStart => Sys2Proof.Machine.execPredictionLineStart s
  | .fitWindowExpiry => Sys2Proof.Machine.execFitWindowExpiry s
  | .callDue port => Sys2Proof.Machine.execCallDue port s
  | .marker mark period lines => Sys2Proof.Machine.execMarker mark period lines s
  | .laneSignalPresent port => Sys2Proof.Machine.execLaneSignalPresent port s
  | .laneSignalLost port => Sys2Proof.Machine.execLaneSignalLost port s
  | .laneSymbol port symbol => Sys2Proof.Machine.execLaneSymbol port symbol s
  | .cellHandover => Sys2Proof.Machine.execCellHandover s
  | .returnCellCarried => Sys2Proof.Machine.execReturnCellCarried s
  | .failedBlock => Sys2Proof.Machine.execFailedBlock s
  | .offer cls => Sys2Proof.Machine.execOffer cls s
  | .start cls => Sys2Proof.Machine.execStart cls s
  | .health errors => Sys2Proof.Machine.execHealth errors s
  | .uplinkIdle => Sys2Proof.Machine.execUplinkIdle s
  | .segment marks len payload => Sys2Proof.Machine.execSegment marks len payload s
  | .silenceExpiry => Sys2Proof.Machine.execSilenceExpiry s
  | .trainingExpiry => Sys2Proof.Machine.execTrainingExpiry s
  | .wordSent => Sys2Proof.Machine.execWordSent s
  | .boardAnswer answer => Sys2Proof.Machine.execBoardAnswer answer s
  | .readWord word => Sys2Proof.Machine.execReadWord word s
  | .answerTimeout => Sys2Proof.Machine.execAnswerTimeout s
  | .mgmtByte byte => Sys2Proof.Machine.execMgmtByte byte s
  | .gapExpiry => Sys2Proof.Machine.execGapExpiry s
  | .replyEnd => Sys2Proof.Machine.execReplyEnd s
  | .unknownKind kind body => Sys2Proof.Machine.execUnknownKind kind body s
  | .identify => Sys2Proof.Machine.execIdentify s
  | .readStatus => Sys2Proof.Machine.execReadStatus s
  | .clearFlags numbers => Sys2Proof.Machine.execClearFlags numbers s
  | .setAttnMask marks => Sys2Proof.Machine.execSetAttnMask marks s
  | .readCounters group action => Sys2Proof.Machine.execReadCounters group action s
  | .restart => Sys2Proof.Machine.execRestart s
  | .setTiming imageLines delay period lines => Sys2Proof.Machine.execSetTiming imageLines delay period lines s
  | .readGrid => Sys2Proof.Machine.execReadGrid s
  | .setPort port fields => Sys2Proof.Machine.execSetPort port fields s
  | .readPort port => Sys2Proof.Machine.execReadPort port s
  | .setTrim port trim => Sys2Proof.Machine.execSetTrim port trim s
  | .stageSlots first newLen entries => Sys2Proof.Machine.execStageSlots first newLen entries s
  | .readSlots selector => Sys2Proof.Machine.execReadSlots selector s
  | .commitSlots => Sys2Proof.Machine.execCommitSlots s
  | .readWeave => Sys2Proof.Machine.execReadWeave s
  | .setLink ceiling threshold => Sys2Proof.Machine.execSetLink ceiling threshold s
  | .readLink => Sys2Proof.Machine.execReadLink s
  | .forward fields => Sys2Proof.Machine.execForward fields s
  | .fetchReplies n => Sys2Proof.Machine.execFetchReplies n s
  | .setGate mode => Sys2Proof.Machine.execSetGate mode s
  | .setBus timeout mark => Sys2Proof.Machine.execSetBus timeout mark s
  | .ancMode mode window => Sys2Proof.Machine.execAncMode mode window s
  | .ancLoad offset bytes => Sys2Proof.Machine.execAncLoad offset bytes s
  | .mailSend body => Sys2Proof.Machine.execMailSend body s
  | .mailFetch => Sys2Proof.Machine.execMailFetch s

end Sys2Proof.Machine
end

