-- ==== Sys2Proof/Machine/Timed.lean ====
section
/-! DEFINITION. The events the timebase brings about by itself (R1, R3, R4, R13, R107, R111, R134, R151, R153), and the
tick. -/

namespace Sys2Proof.Machine

/-- The call of a port falls due at this count (R13). -/
def State.callDueNow (s : State) (p : PortId) : Bool := (s.grid.due.get p).map (·.time) == some s.timebase

/-- Every byte of the reply in progress has been sent (R156). -/
def MgmtPort.replySent (m : MgmtPort) : Bool :=
  match m.reply with
  | some r => r.record.length ≤ r.sent
  | none => false

/-- The time-driven event that falls due at this count and has not been taken, if there is one. Events that meet at one
count may be taken in either order; this order is a DESIGN CHOICE (assumption log 10), and a command in the queue may take
one of them first. -/
def dueEvent (s : State) : Option Instr :=
  if s.callDueNow .p0 then some (.callDue .p0)
  else if s.callDueNow .p1 then some (.callDue .p1)
  else if s.callDueNow .p2 then some (.callDue .p2)
  else if s.callDueNow .p3 then some (.callDue .p3)
  else if s.mgmt.gapExpiry = some s.timebase then some .gapExpiry
  else if s.mgmt.replySent then some .replyEnd
  else if (s.bus.txn.bind (·.expiry)) = some s.timebase then some .answerTimeout
  else if s.link.trainingExpiry = some s.timebase then some .trainingExpiry
  else if s.link.silenceExpiry = some s.timebase ∧ s.link.state ≠ .silent then some .silenceExpiry
  else if !s.grid.awaitsMarkers && s.timebase == s.grid.prediction then some .predictionLineStart
  else if s.grid.awaitsMarkers && s.timebase == s.grid.prediction + 8 then some .fitWindowExpiry
  else none

/-- R1: the timebase advances by one, wrapping; the reply in progress goes out by as much (R151). -/
def tick (s : State) : State :=
  { s with
    timebase := s.timebase + 1
    mgmt := { s.mgmt with reply := s.mgmt.reply.map fun r => r.oneCount s.mgmt.rate } }

end Sys2Proof.Machine
end

