-- ==== Sys2Proof/Machine/Step.lean ====
section
/-! DEFINITION. One step: the command at the front of the queue, or, on an empty queue, what the timebase brings. -/

namespace Sys2Proof.Machine

/-- On an empty queue the block does not idle: a time-driven event due at this count is taken, and with none due the
timebase advances by one (DESIGN CHOICE, assumption log 10). While RESETN is held low nothing moves (section 5.8). -/
def idle (s : State) : Host.Outcome State Fault Refusal :=
  if s.resetLow then .next s
  else
    match dueEvent s with
    | some c => exec c s
    | none => .next (tick s)

/-- One step of the part. -/
def step (s : State) : Host.Outcome State Fault Refusal :=
  match s.pending with
  | [] => idle s
  | c :: rest => exec c { s with pending := rest }

/-- The state with the command a word spells put at the front of its queue; unchanged, since no word spells one. -/
def State.withFetchWord (s : State) (nbits w : Nat) : State :=
  match decodeTableWord nbits w with
  | some c => { s with pending := c :: s.pending }
  | none => s

end Sys2Proof.Machine
end

