-- ==== Sys2Proof/Safety.lean ====
section
/-! DEFINITION. What a sound state of the VH418 is, in the terms the statements use: the laws the specification gives each
block's figures, what a management request meets, and what a line start leaves alone. -/

namespace Sys2Proof.Machine

/-! ### The ports (R22, R42, R44, R45, R58, R65) -/

/-- The ranges of R22. -/
structure Settings.InRange (x : Settings) : Prop where
  boardId : x.boardId ≤ 7
  lineLen_pos : 1 ≤ x.lineLen
  lineLen_le : x.lineLen ≤ 240
  resume_ge : x.lineLen ≤ x.resume
  resume_le : x.resume ≤ 1024
  phase : x.phase ≤ 8191
  target : x.target ≤ 8191
  stepMax_pos : 1 ≤ x.stepMax
  stepMax_le : x.stepMax ≤ 64
  window_ge : 4 ≤ x.window
  window_le : x.window ≤ 255

/-- The law of R44 for one port, with the reservation figures of R39 and R43, and the empty store of a disabled port (R25). -/
structure Port.KeepsStoreLaw (q : Port) : Prop where
  settings : q.settings.InRange
  cells : q.store.cellsHeld + q.callList.length * q.settings.lineLen ≤ 1024
  slots : q.store.ring.length + q.callList.length ≤ 32
  calls : q.callList.length ≤ 16
  reservedCells : q.store.reservedCells = q.callList.length * q.settings.lineLen
  reservedDescs : q.store.reservedDescs = q.callList.length
  counts : ∀ d ∈ q.store.ring, 1 ≤ d.count ∧ d.count ≤ 240
  disabled : q.settings.enabled = false → q.callList = [] ∧ q.store.ring = []

/-- The law of R44 for every port. -/
def State.KeepsStoreLaw (s : State) : Prop := ∀ p, (s.port p).KeepsStoreLaw

/-- R39, R45: every descriptor lists as many cells as it holds, and no cell is held twice. -/
structure Store.CellsOwned (x : Store) : Prop where
  count : ∀ d ∈ x.ring, d.cells.length = d.count
  once : (x.ring.flatMap (·.cells)).Nodup

/-- The call counts a port holds: those of its descriptors, oldest first, then those of its Call List. -/
def Port.callCounts (q : Port) : List LineCount := q.store.ring.map (·.callCount) ++ q.callList.map (·.callCount)

/-- R31, R42: call counts rise strictly along a port's ring and on along its Call List, none is ahead of N, and a call that
has still to fall due is the present line's, of which the port holds nothing yet (R13). -/
structure State.CallsOrdered (s : State) (p : PortId) : Prop where
  rising : (s.port p).callCounts.Pairwise fun a b => before a b = true
  notAhead : ∀ c ∈ (s.port p).callCounts, c = s.grid.lineCount ∨ before c s.grid.lineCount = true
  due : ∀ d, s.grid.due.get p = some d → d.callCount = s.grid.lineCount ∧ s.grid.lineCount ∉ (s.port p).callCounts

/-- R42: at most one descriptor is FILLING, and only while its packet is being received; at most one is SENDING; a lane that
is not UP receives nothing (R33). -/
structure Port.OneAtATime (q : Port) : Prop where
  filling : (q.store.ring.filter fun d => d.state == .filling).length ≤ 1
  sending : (q.store.ring.filter fun d => d.state == .sending).length ≤ 1
  received : q.store.filling?.isSome → ∃ k, q.lane.rx = .storing k
  down : q.lane.state ≠ .up → q.lane.rx = .waiting

/-- The ranges of R58. -/
structure Servo.InRange (v : Servo) : Prop where
  trim_ge : -512 ≤ v.trim
  trim_le : v.trim ≤ 511
  samples : v.samples ≤ 15
  acc : v.acc.natAbs ≤ 2047 * v.samples
  lastMean : v.lastMean.natAbs ≤ 2047

/-! ### Byte stores -/

/-- A byte store in canonical form within an address range. -/
def Memory.Sound (size : Nat) (m : Memory) : Prop := m.wf = true ∧ ∀ e ∈ m, e.1 < size

/-- Every byte store of the part is in canonical form within its range (R39, R142). -/
structure State.MemorySound (s : State) : Prop where
  pools : ∀ p, Memory.Sound 32768 (s.port p).store.pool
  anc : Memory.Sound 4096 s.anc.store

/-! ### The grid (R2, R9, R10, R13, R16) -/

/-- The ranges of R2 and R17, n within the frame (R9), F + D within every frame (R6, R16), and the call phases within the line
period (R13, R65). -/
structure Grid.Lawful (g : Grid) : Prop where
  period_ge : 1000 ≤ g.period
  period_le : g.period ≤ 8191
  nomPeriod_ge : 1000 ≤ g.nomPeriod
  nomPeriod_le : g.nomPeriod ≤ 8191
  imageLines_ge : 16 ≤ g.imageLines
  delay_ge : 1 ≤ g.delay
  delay_le : g.delay ≤ 8
  room : g.imageLines + g.delay ≤ g.lines
  nomRoom : g.imageLines + g.delay ≤ g.nomLines
  lines_le : g.lines ≤ 4095
  nomLines_le : g.nomLines ≤ 4095
  n : g.n < g.lines
  missRun : g.missRun ≤ 7
  lockRun : g.lockRun ≤ 1
  phase : ∀ p, g.phase.get p ≤ g.period - 1

/-! ### The Weave Table (R70, R71) -/

/-- The ranges of R70. -/
def SlotEntry.InRange (e : SlotEntry) : Prop := 1 ≤ e.quota ∧ e.quota ≤ 240 ∧ e.priority ≤ 3

/-- A bank holds 1 to 32 entries in range (R70, R71). -/
structure BankSound (bank : List SlotEntry) : Prop where
  nonempty : 1 ≤ bank.length
  length : bank.length ≤ 32
  entries : ∀ e ∈ bank, e.InRange

/-- Both banks are sound. -/
def WeaveTable.Lawful (w : WeaveTable) : Prop := BankSound w.staged ∧ BankSound w.active

/-! ### The Triax Link (R105) -/

/-- R105, R107, R110 to R114, R120: the ranges of the runs and classes; the class in force is none exactly while frames are
not running and never exceeds the ceiling; a scheduled class stays at or below the ceiling that will stand at the frame
start. -/
structure Link.Lawful (k : Link) : Prop where
  ceiling : k.ceiling ≤ 5
  pending : ∀ m, k.pendingCeiling = some m → m ≤ k.ceiling ∧ k.framesRunning = true ∧ ∃ c, k.scheduled = some c
  running : k.framesRunning = true → k.state = .up
  inForce : k.inForce.isSome = k.framesRunning
  inForce_le : ∀ c, k.inForce = some c → c ≤ k.ceiling
  scheduled_le : ∀ c, k.scheduled = some c → c ≤ k.limit
  accepted_le : ∀ c, k.state = .training → k.accepted = some c → c ≤ k.ceiling
  silent : k.state = .silent → k.accepted = none
  badRun : k.badRun ≤ 2
  cleanRun : k.cleanRun ≤ 64
  failureRun : k.failureRun ≤ 15

/-! ### The Board Bus Controller (R122, R125) -/

/-- R125, with the origins each queue holds (R122 to R124): the credit law. -/
structure Bus.KeepsCredit (b : Bus) : Prop where
  toLocal : b.localOutstanding ≤ 8
  remote : b.remoteOutstanding ≤ 8
  localQueue : ∀ t ∈ b.localQueue, t.origin = .toLocal
  remoteQueue : ∀ e ∈ b.remoteQueue, e.txn.origin = .remote
  pendingReply : ∀ r, b.pendingReply = some r → r.origin = .remote
  arriving : ∀ t, b.txn = some t → t.record ≠ .passed → t.txn.origin = .remote

/-! ### The Ancillary Buffer and the Mailboxes (R142, R147) -/

/-- The ranges of R142; in STREAM the allowance is queued, in REPEAT nothing is queued (R144). -/
structure AncBuffer.Lawful (a : AncBuffer) : Prop where
  fill : a.fill ≤ 4096
  readPoint : a.readPoint < 4096
  window : a.window ∈ repeatWindows
  repeatPos : a.repeatPos < a.window
  stream : a.mode = .stream → a.allowance ≤ a.fill
  repeating : a.mode = .repeating → a.fill = 0

/-- The ranges of R147. -/
structure Mailboxes.Lawful (m : Mailboxes) : Prop where
  inbox : m.inbox.length ≤ 8
  outbox : m.outbox.length ≤ 8
  bodies : ∀ b ∈ m.outbox, b.length ≤ 64

/-! ### Management requests (R154, R156) -/

/-- The port dispatches the next complete record at once: RESETN is high, no reply is in progress and the holding area is
empty (R154). -/
def State.Listens (s : State) : Prop := s.resetLow = false ∧ s.mgmt.reply = none ∧ s.mgmt.holding = none

/-- A state with the reply to a request being sent, no byte of it out yet, its status summary composed from that state
(R156). The receiver is not touched (assumption log 33). -/
def State.answered (t : State) (kind : Byte) (outcome : ReqOutcome) (body : List Byte) : State :=
  { t with mgmt := { t.mgmt with reply := some ⟨replyBytes kind outcome t.summary body, 0, 0, false⟩ } }

end Sys2Proof.Machine

namespace Sys2Proof

/-- The command a request's row is. -/
def Request.command : Request → Instr
  | .identify => .identify
  | .readStatus => .readStatus
  | .clearFlags ns => .clearFlags ns
  | .setAttnMask m => .setAttnMask m
  | .readCounters g a => .readCounters g a
  | .restart => .restart
  | .setTiming f d p g => .setTiming f d p g
  | .readGrid => .readGrid
  | .setPort p f => .setPort p f
  | .readPort p => .readPort p
  | .setTrim p t => .setTrim p t
  | .stageSlots f l es => .stageSlots f l es
  | .readSlots b => .readSlots b
  | .commitSlots => .commitSlots
  | .readWeave => .readWeave
  | .setLink c t => .setLink c t
  | .readLink => .readLink
  | .forward f => .forward f
  | .fetchReplies n => .fetchReplies n
  | .setGate m => .setGate m
  | .setBus t m => .setBus t m
  | .ancMode m w => .ancMode m w
  | .ancLoad o bs => .ancLoad o bs
  | .mailSend b => .mailSend b
  | .mailFetch => .mailFetch

end Sys2Proof

namespace Sys2Proof.Machine

/-- Commands one after another, stopping at the first that gives no next state. -/
def runCommands : List Instr → State → Host.Outcome State Fault Refusal
  | [], s => .next s
  | c :: rest, s =>
    match exec c s with
    | .next t => runCommands rest t
    | .fault r => .fault r
    | .refused r => .refused r

/-! ### Body lengths (section 10.4) -/

/-- The body lengths the catalogue of section 10.4 gives each of its kinds (R155): 1 + k for CLEAR-FLAGS (R164, k its first
byte), 3 + 3k for STAGE-SLOTS (R73, k its third byte), 6 + 2 × count for a FORWARD of a WRITE, else 6 (R126, the kind code its
third byte and the count its sixth), 2 to 512 for ANC-LOAD (R144), 0 to 64 for MAIL-SEND (R147), and one length for every
other kind. -/
def lengthFits (kind : Byte) (body : List Byte) : Bool :=
  let n := body.length
  match kind.toNat with
  | 0x03 => n == 1 + (body.getD 0 0).toNat
  | 0x04 => n == 8
  | 0x05 => n == 2
  | 0x10 => n == 7
  | 0x18 => n == 15
  | 0x19 => n == 1
  | 0x1A => n == 3
  | 0x20 => 3 ≤ n && n == 3 + 3 * (body.getD 2 0).toNat
  | 0x21 => n == 1
  | 0x28 => n == 3
  | 0x30 => 6 ≤ n && n == (if body.getD 2 0 = 0 then 6 + 2 * (body.getD 5 0).toNat else 6)
  | 0x31 => n == 1
  | 0x32 => n == 1
  | 0x33 => n == 3
  | 0x38 => n == 3
  | 0x39 => 2 ≤ n && n ≤ 512
  | 0x3A => n ≤ 64
  | _ => n == 0

/-! ### What a line start leaves alone -/

/-- The flags a line start may set: MARKER_LOST, REALIGNED (R8, R10), COMMIT_DONE, COMMIT_DROPPED (R78), SHEDDING, CUT (R82),
and a port's CALL_WITHHELD (R28, R30), CONCEALED and DAMAGED (R89). -/
def Flag.ofLineStart : Flag → Bool
  | .markerLost => true
  | .realigned => true
  | .commitDone => true
  | .commitDropped => true
  | .shedding => true
  | .cut => true
  | .port _ .callWithheld => true
  | .port _ .concealed => true
  | .port _ .damaged => true
  | _ => false

/-- What every line start leaves as it was: the timebase, the board bus, the mailboxes, the management port, the masks, the
timing settings, the STAGED bank, the ancillary store, every port's settings, lane, trim and cell bytes, the link but for
its classes and ceiling (R112), and every flag that is none of a line start's. -/
structure LineStartKeeps (s t : State) : Prop where
  resetLow : t.resetLow = s.resetLow
  timebase : t.timebase = s.timebase
  pending : t.pending = s.pending
  bus : t.bus = s.bus
  mail : t.mail = s.mail
  mgmt : t.mgmt = s.mgmt
  masks : t.flagUnit.masks = s.flagUnit.masks
  busCounters : t.flagUnit.bus = s.flagUnit.bus
  nomPeriod : t.grid.nomPeriod = s.grid.nomPeriod
  nomLines : t.grid.nomLines = s.grid.nomLines
  imageLines : t.grid.imageLines = s.grid.imageLines
  delay : t.grid.delay = s.grid.delay
  staged : t.table.staged = s.table.staged
  ancStore : t.anc.store = s.anc.store
  ancFill : t.anc.fill = s.anc.fill
  ancReadPoint : t.anc.readPoint = s.anc.readPoint
  linkState : t.link.state = s.link.state
  accepted : t.link.accepted = s.link.accepted
  assembly : t.link.assembly = s.link.assembly
  silenceExpiry : t.link.silenceExpiry = s.link.silenceExpiry
  settings : ∀ p, (t.port p).settings = (s.port p).settings
  signal : ∀ p, (t.port p).lane.signal = (s.port p).lane.signal
  laneState : ∀ p, (t.port p).lane.state = (s.port p).lane.state
  trim : ∀ p, (t.port p).servo.trim = (s.port p).servo.trim
  lastMean : ∀ p, (t.port p).servo.lastMean = (s.port p).servo.lastMean
  pool : ∀ p, (t.port p).store.pool = (s.port p).store.pool
  flags : ∀ f : Flag, f.ofLineStart = false → t.hasFlag f = s.hasFlag f

/-! ### What a line start does (`t` is the state it leaves, `s` the one before) -/

/-- R12, R78 to R82, R85, R112, R146: the state before with the new line's grid, after the frame start where the line begins a
frame. -/
def State.onFrame (s t : State) (realign : Bool) : State :=
  let v := { s with grid := t.grid }
  if t.grid.n = 0 then frameStart ⟨t.grid.tag, t.grid.frameCount, t.grid.period, t.grid.lines, realign⟩ v else v

/-- R13: the call of port p in the line that a grid begins. -/
def Grid.callOf (g : Grid) (p : PortId) : DueCall :=
  ⟨g.refTime + BitVec.ofNat 32 (g.phase.get p), g.n, g.tag, g.lineCount, g.refTime⟩

/-- R13, R27, R30, R51, R66, R86, R87: a line start at port p, from the state `v` on the new line's frame: the ending line's
call, if it has not fallen due, reaches the port, or is abandoned by a realign and counted; the realign clears the servo; the
pending-call mark is set on an image line; the SENDING line is released; in the take window an enabled port takes the line
called D lines before, else its outcome is NONE; a call of the new line whose due time has passed reaches the port. The
order, where the rules leave it open, is the model's (assumption log 8). -/
def portAtLineStart (p : PortId) (realign : Bool) (v : State) (ending : Option DueCall) : State :=
  let g := v.grid
  let v1 := match ending with
    | some d => if realign then v else callNotice p d v
    | none => v
  let q := v1.port p
  let v2 :=
    if realign = true ∧ q.pendingCall = true ∧ q.settings.enabled = true ∧ q.lane.state = .up then
      (v1.countPort p fun c => { c with callsWithheld := bump c.callsWithheld }).setFlag (.port p .callWithheld)
    else v1
  let v3 := { v2 with
    ports := v2.ports.set p
      { q with
        pendingCall := if g.n < g.imageLines then true else q.pendingCall
        servo := if realign then { q.servo with acc := 0, samples := 0, align := .unknown } else q.servo
        store := { q.store with ring := q.store.ring.filter fun d => d.state != .sending } }
    engine := { v2.engine with
      sending := v2.engine.sending.set p none
      outcome := v2.engine.outcome.set p .none } }
  let v4 :=
    if q.settings.enabled = true ∧ g.delay ≤ g.n ∧ g.n + 1 ≤ g.imageLines + g.delay then
      takeLine p (g.lineCount - BitVec.ofNat 32 g.delay) v3
    else v3
  if g.n < g.imageLines ∧ before (g.callOf p).time v.timebase = true then callNotice p (g.callOf p) v4 else v4

/-- R11 to R13, R27, R30, R51, R66, R78 to R82, R86, R87, R112, R146: what a line start does beside the grid's own numbers:
the frame start where one is due; every port's calls, release and take, on the frame's values; and the calls of the new
line, each falling due at its time if that has not passed. -/
structure LineStartActs (realign : Bool) (s t : State) : Prop where
  link : t.link = (s.onFrame t realign).link
  table : t.table = (s.onFrame t realign).table
  repeatPos : t.anc.repeatPos = (s.onFrame t realign).anc.repeatPos
  frameClass : t.engine.frameClass = (s.onFrame t realign).engine.frameClass
  capacity : t.engine.capacity = (s.onFrame t realign).engine.capacity
  shed : t.engine.shed = (s.onFrame t realign).engine.shed
  prevShed : t.engine.prevShed = (s.onFrame t realign).engine.prevShed
  cut : t.engine.cut = (s.onFrame t realign).engine.cut
  frameFlags : ∀ f ∈ [Flag.commitDone, .commitDropped, .shedding, .cut], t.hasFlag f = (s.onFrame t realign).hasFlag f
  port : ∀ p, t.port p = (portAtLineStart p realign (s.onFrame t realign) (s.grid.due.get p)).port p
  counters : ∀ p, t.flagUnit.ports.get p =
    (portAtLineStart p realign (s.onFrame t realign) (s.grid.due.get p)).flagUnit.ports.get p
  portFlags : ∀ p f, t.hasFlag (.port p f) =
    (portAtLineStart p realign (s.onFrame t realign) (s.grid.due.get p)).hasFlag (.port p f)
  sending : ∀ p, t.engine.sending.get p =
    (portAtLineStart p realign (s.onFrame t realign) (s.grid.due.get p)).engine.sending.get p
  outcome : ∀ p, t.engine.outcome.get p =
    (portAtLineStart p realign (s.onFrame t realign) (s.grid.due.get p)).engine.outcome.get p
  due : ∀ p, t.grid.due.get p =
    if t.grid.n < t.grid.imageLines ∧ before (t.grid.callOf p).time s.timebase = false then some (t.grid.callOf p) else none

/-! ### The period a line start composes -/

/-- R96 to R98: the status of an index of the ACTIVE bank: a port's slot holds what is left of its SENDING line after the
port's slots before it. -/
def State.statusAt (t : State) (i : Nat) : SlotStatus :=
  match t.table.active[i]? with
  | none => .absent
  | some e =>
    if t.engine.shed.getD i false then .shed
    else if (t.engine.cut.map fun c => decide (c.index ≤ i)).getD false then .cut
    else match e.source with
      | .anc => .anc
      | .ret => .ret
      | .fill => .fill
      | .port p =>
        match t.engine.outcome.get p with
        | .none => .idle
        | .concealed => .missing
        | .sent =>
          let line := (t.port p).store.sending?
          let before := (((t.table.active.zipIdx.take i).filter fun x => x.1.source == .port p).map fun x =>
            t.engine.entryCells x.2 x.1.quota).sum
          let laid := min e.quota ((line.map (·.count)).getD 0 - before)
          if laid = 0 then .spare
          else if line.map (·.result) = some (some .damaged) then .damaged
          else if laid = e.quota then .line
          else .part

/-- R93 to R97, R101, R103, R116, R145, R146: the period of the new line: carried while frames run; then its slot statuses,
its ancillary byte count, its line header cell and its maintenance cell, none of its cells handed over yet; else nothing is
composed. -/
structure PeriodComposed (s t : State) : Prop where
  carried : t.engine.carried = t.link.framesRunning
  handed : t.engine.handed = 0
  ancMode : t.anc.mode = s.anc.mode
  ancWindow : t.anc.window = s.anc.window
  notCarried : t.link.framesRunning = false →
    t.engine.status = s.engine.status ∧ t.engine.header = [] ∧ t.engine.maintenance = []
      ∧ t.anc.allowance = s.anc.allowance
  status : t.link.framesRunning = true → t.engine.status = (List.range 32).map t.statusAt
  allowance : t.link.framesRunning = true →
    let cells := ((t.table.active.zipIdx.filter fun x => x.1.source == .anc).map fun x =>
      t.engine.entryCells x.2 x.1.quota).sum
    t.anc.allowance = (match t.anc.mode with
      | .stream => min t.anc.fill (32 * cells)
      | .repeating => 32 * cells)
  header : t.link.framesRunning = true → t.engine.header = withCheck (padTo 30
    ([byteOf (64 * t.grid.tag.toNat + if t.mail.hold then 32 else 0)] ++ be16n t.grid.n
      ++ [byteOrNone t.engine.frameClass, t.table.generation] ++ packMarks t.engine.shed
      ++ packNibbles ((List.range 32).map fun i => (t.statusAt i).code) ++ be16n t.anc.allowance))
  maintenance : t.link.framesRunning = true → t.engine.maintenance = withCheck (padTo 30
    ([byteOrNone t.link.inForce, byteOrNone t.link.scheduled, byteOf t.link.ceiling, byteOrNone t.link.pendingCeiling]
      ++ be16n t.link.threshold ++ [byteOf t.link.badRun, byteOf t.link.cleanRun] ++ be16n t.link.lastE
      ++ [byteOf t.link.failureRun]))

/-! ### What a lane's event leaves alone -/

/-- What an event of port p's lane leaves as it was: every other block, every other port with its counters, the settings,
withhold state and pending-call mark of p, and every flag but p's own (02_board_lanes_and_line_calls.md: the four Board Lane
blocks share no state). -/
structure LaneKeeps (p : PortId) (s t : State) : Prop where
  resetLow : t.resetLow = s.resetLow
  timebase : t.timebase = s.timebase
  grid : t.grid = s.grid
  table : t.table = s.table
  engine : t.engine = s.engine
  link : t.link = s.link
  bus : t.bus = s.bus
  anc : t.anc = s.anc
  mail : t.mail = s.mail
  mgmt : t.mgmt = s.mgmt
  pending : t.pending = s.pending
  masks : t.flagUnit.masks = s.flagUnit.masks
  linkCounters : t.flagUnit.link = s.flagUnit.link
  busCounters : t.flagUnit.bus = s.flagUnit.bus
  ports : ∀ r, r ≠ p → t.port r = s.port r
  counters : ∀ r, r ≠ p → t.flagUnit.ports.get r = s.flagUnit.ports.get r
  settings : (t.port p).settings = (s.port p).settings
  withhold : (t.port p).withhold = (s.port p).withhold
  pendingCall : (t.port p).pendingCall = (s.port p).pendingCall
  flags : ∀ f : Flag, (∀ g, f ≠ .port p g) → t.hasFlag f = s.hasFlag f

/-! ### Good uplink blocks (R106, R109) -/

/-- The state after what every good uplink block does before it is handed on by kind: the failure run is 0, the silence expiry
10 ms on, and a SILENT link moves to TRAINING with the answer NONE. -/
def State.afterGoodBlock (s : State) : State :=
  { s with link := { s.link with
    failureRun := 0
    silenceExpiry := some (s.timebase + 1485000)
    state := if s.link.state = .silent then .training else s.link.state
    answer := if s.link.state = .silent then .none else s.link.answer } }

end Sys2Proof.Machine
end

