-- ==== Sys2Proof/Certificates/Slice0/Obligations.lean ====
section
/-! DEFINITION. The statements for the provers, in the order of OBLIGATIONS.json. A statement that gives a whole next state gives
its frame with it: every field it does not name is the old state's. -/

open Sys2Proof Sys2Proof.Machine

/-! ### The queue and the timebase -/

/-- The table's steps are whole (95_what_each_step_holds.md): a step runs the command at the front of the queue on the state
with the queue's rest. -/
def Obligations.StepRunsFrontCommand : Prop :=
  ∀ (c : Instr) (rest : List Instr) (s : State),
    step { s with pending := c :: rest } = exec c { s with pending := rest }

/-- R1, R3, R4, R13, R107, R111, R134, R151, R153, R156, assumption log 10: with no command waiting, the part advances the
timebase by one unless a time-driven event is due at this count; then it takes the event. Each event's condition is stated in
the order of that log: the calls of ports 0 to 3, the gap expiry, the end of a reply whose bytes are all out, the expiry at the
bus, the training expiry, the silence expiry, the prediction, the end of the fit window; the first that holds is taken. With
the timebase goes the reply in progress: a character is 10 bits at the line rate (assumption log 16), and the bits of
1,485,000,000 counts are as many bytes as the rate has bits in a second. -/
def Obligations.EmptyQueueStep : Prop :=
  ∀ s : State, s.pending = [] →
    (s.resetLow = true → step s = .next s)
    ∧ (∀ c, s.resetLow = false → dueEvent s = some c → step s = exec c s)
    ∧ (s.resetLow = false →
        let call := fun p : PortId => ∃ d, s.grid.due.get p = some d ∧ d.time = s.timebase
        let calls := ∃ p, call p
        let gap := s.mgmt.gapExpiry = some s.timebase
        let sent := ∃ r, s.mgmt.reply = some r ∧ r.record.length ≤ r.sent
        let wait := ∃ t, s.bus.txn = some t ∧ t.expiry = some s.timebase
        let training := s.link.trainingExpiry = some s.timebase
        let silence := s.link.silenceExpiry = some s.timebase ∧ s.link.state ≠ .silent
        let markers := s.grid.state = .locking ∨ s.grid.state = .locked
        let predicted := ¬markers ∧ s.timebase = s.grid.prediction
        let window := markers ∧ s.timebase = s.grid.prediction + 8
        let bits := match s.mgmt.rate with
          | .baud115200 => 115200
          | .baud460800 => 460800
          | .baud921600 => 921600
          | .baud3000000 => 3000000
        (∀ p, call p → (∀ q : PortId, q.toNat < p.toNat → ¬call q) → step s = exec (.callDue p) s)
        ∧ (¬calls → gap → step s = exec .gapExpiry s)
        ∧ (¬calls → ¬gap → sent → step s = exec .replyEnd s)
        ∧ (¬calls → ¬gap → ¬sent → wait → step s = exec .answerTimeout s)
        ∧ (¬calls → ¬gap → ¬sent → ¬wait → training → step s = exec .trainingExpiry s)
        ∧ (¬calls → ¬gap → ¬sent → ¬wait → ¬training → silence → step s = exec .silenceExpiry s)
        ∧ (¬calls → ¬gap → ¬sent → ¬wait → ¬training → ¬silence → predicted → step s = exec .predictionLineStart s)
        ∧ (¬calls → ¬gap → ¬sent → ¬wait → ¬training → ¬silence → window → step s = exec .fitWindowExpiry s)
        ∧ (¬calls → ¬gap → ¬sent → ¬wait → ¬training → ¬silence → ¬predicted → ¬window → step s = .next { s with
          timebase := s.timebase + 1
          mgmt := { s.mgmt with reply := s.mgmt.reply.map fun r =>
            if r.progress + bits < 1485000000 then { r with progress := r.progress + bits }
            else { r with sent := r.sent + 1, progress := r.progress + bits - 1485000000 } } }))

/-- R1: the timebase is never written by a request: no command but a power-on and the end of a reply (where the reset of a
RESTART takes effect) changes it. -/
def Obligations.OnlyResetsWriteTheTimebase : Prop :=
  ∀ (i : Instr) (s t : State), exec i s = .next t →
    (∀ r b, i ≠ .powerOn r b) → i ≠ .replyEnd → t.timebase = s.timebase

/-! ### Resets (section 5.8, R151, R159 to R161) -/

/-- Section 5.8, R151: every block takes its reset values; the cell bytes stay (R39); a lane whose signal is present goes on to
ACQUIRING when the part runs (R18); the straps give the rate when RESETN rises (R151). Which rate is held while RESETN is low
is the model's choice (assumption log 13). -/
def Obligations.PowerOnResets : Prop :=
  ∀ (straps : BitVec 2) (s : State),
    (let fresh := fun p : PortId =>
        { Port.reset p with
          lane := if (s.port p).lane.signal then { Lane.reset with signal := true, state := .acquiring } else Lane.reset
          store := { Store.reset with pool := (s.port p).store.pool } }
     exec (.powerOn .released straps) s = .next
        { State.reset with
          ports := ⟨fresh .p0, fresh .p1, fresh .p2, fresh .p3⟩
          mgmt := { MgmtPort.reset with
            rate := if straps = 0 then .baud115200 else if straps = 1 then .baud460800
              else if straps = 2 then .baud921600 else .baud3000000 }
          pending := s.pending })
    ∧ (let fresh := fun p : PortId =>
        { Port.reset p with
          lane := { Lane.reset with signal := (s.port p).lane.signal }
          store := { Store.reset with pool := (s.port p).store.pool } }
     ∃ t, exec (.powerOn .heldLow straps) s = .next t ∧ t.attn = false ∧ t =
        { State.reset with
          resetLow := true
          ports := ⟨fresh .p0, fresh .p1, fresh .p2, fresh .p3⟩
          mgmt := { MgmtPort.reset with rate := s.mgmt.rate }
          pending := s.pending })

/-- The reset values the tables of R2, R22, R26, R39, R58, R71, R84, R105, R122, R142, R147, R151, R161 and R165 give. -/
def Obligations.ResetValues : Prop :=
  let s := State.reset
  (s.timebase = 0 ∧ s.grid.state = .free ∧ s.grid.period = 2640 ∧ s.grid.lines = 1125 ∧ s.grid.nomPeriod = 2640
      ∧ s.grid.nomLines = 1125 ∧ s.grid.imageLines = 1080 ∧ s.grid.delay = 2 ∧ s.grid.n = 0 ∧ s.grid.lineCount = 0
      ∧ s.grid.tag = 0 ∧ s.grid.frameCount = 0 ∧ s.grid.refTime = 0 ∧ s.grid.prediction = 2640 ∧ s.grid.missRun = 0
      ∧ s.grid.lockRun = 0 ∧ s.grid.frameMiss = false ∧ ∀ p ∈ PortId.all, s.grid.phase.get p = 0)
    ∧ (∀ p ∈ PortId.all, let q := s.port p
        q.settings = ⟨false, p.toNat, 75, 150, .header, .conceal, 0, 400, .off, 8, 32⟩
        ∧ q.withhold = .opened ∧ q.pendingCall = false ∧ q.callList = [] ∧ q.lane.state = .down ∧ q.lane.acquireRun = 0
        ∧ q.lane.errorAges = [] ∧ q.store.ring = [] ∧ q.store.reservedCells = 0 ∧ q.store.reservedDescs = 0
        ∧ q.servo = ⟨0, 0, 0, 0, .unknown⟩ ∧ s.flagUnit.ports.get p = ⟨0, 0, 0, 0, 0, 0, 0, 0, 0, 0, 0, 0⟩
        ∧ s.engine.sending.get p = none ∧ s.engine.outcome.get p = .none)
    ∧ s.table = ⟨[⟨.fill, 1, 0⟩], [⟨.fill, 1, 0⟩], false, 0⟩
    ∧ (s.engine.frameClass = none ∧ s.engine.capacity = none ∧ s.engine.shed = List.replicate 32 false
        ∧ s.engine.prevShed = false ∧ s.engine.cut = none ∧ s.engine.carried = false
        ∧ s.engine.status = List.replicate 32 .absent)
    ∧ (s.link.state = .silent ∧ s.link.framesRunning = false ∧ s.link.inForce = none ∧ s.link.scheduled = none
        ∧ s.link.ceiling = 5 ∧ s.link.pendingCeiling = none ∧ s.link.threshold = 4 ∧ s.link.badRun = 0
        ∧ s.link.cleanRun = 0 ∧ s.link.lastE = 0 ∧ s.link.accepted = none ∧ s.link.answer = .none
        ∧ s.link.trainingExpiry = none ∧ s.link.failureRun = 0 ∧ s.link.silenceExpiry = none ∧ s.link.assembly = .idle)
    ∧ (s.bus.localQueue = [] ∧ s.bus.remoteQueue = [] ∧ s.bus.txn = none ∧ s.bus.pendingReply = none
        ∧ s.bus.localReplies = [] ∧ s.bus.remoteReplies = [] ∧ s.bus.gate = .shut ∧ s.bus.permit = false
        ∧ s.bus.lastServed = .remote ∧ s.bus.answerTimeout = 100 ∧ s.bus.replyMark = 1 ∧ s.bus.grantingStopped = false)
    ∧ s.anc = ⟨[], .stream, 0, 0, 256, 0, 0⟩
    ∧ s.mail = ⟨[], [], none, .mail, false⟩
    ∧ (s.mgmt.rx = .hunting ∧ s.mgmt.gapExpiry = none ∧ s.mgmt.holding = none ∧ s.mgmt.reply = none)
    ∧ (s.flagUnit.masks = 0 ∧ s.hasFlag .powerOn = true ∧ s.flagUnit.flags = mark 0 ∧ s.attn = true
        ∧ s.flagUnit.link = ⟨0, 0, 0, 0⟩ ∧ s.flagUnit.bus = ⟨0, 0, 0, 0, 0⟩)

/-- R151, section 5.8, assumption log 13: while RESETN is low no command but a power-on event and a lane's signal does
anything, and ATTN is low (R161). -/
def Obligations.HeldLowTakesNothing : Prop :=
  ∀ (i : Instr) (s : State), s.resetLow = true →
    (∀ r b, i ≠ .powerOn r b) → (∀ p, i ≠ .laneSignalPresent p) → (∀ p, i ≠ .laneSignalLost p) →
    exec i s = .next s ∧ s.attn = false

/-! ### The line grid -/

/-- R3, R9, R11 to R13, R86, R93: a line start on the prediction in FREE and in HOLDOVER: the grid's own numbers, and, by
LineStartActs and PeriodComposed, the frame start, the ports and the period. The order of what the rules leave open is
assumption log 8. -/
def Obligations.PredictionStartsLine : Prop :=
  ∀ s : State, s.resetLow = false → (s.grid.state = .free ∨ s.grid.state = .holdover) →
    s.timebase = s.grid.prediction → s.grid.n < s.grid.lines →
    ∃ t, exec .predictionLineStart s = .next t ∧ LineStartKeeps s t ∧ LineStartActs false s t ∧ PeriodComposed s t
      ∧ t.grid.state = s.grid.state ∧ t.grid.missRun = s.grid.missRun ∧ t.grid.lockRun = s.grid.lockRun
      ∧ t.grid.frameMiss = s.grid.frameMiss
      ∧ t.grid.refTime = s.grid.prediction
      ∧ t.grid.prediction = s.grid.prediction + BitVec.ofNat 32 t.grid.period
      ∧ t.grid.lineCount = s.grid.lineCount + 1
      ∧ (s.grid.n + 1 = s.grid.lines →
          t.grid.n = 0 ∧ t.grid.tag = s.grid.tag + 1 ∧ t.grid.frameCount = s.grid.frameCount + 1
          ∧ (s.grid.state = .free → t.grid.period = s.grid.nomPeriod ∧ t.grid.lines = s.grid.nomLines)
          ∧ (s.grid.state = .holdover → t.grid.period = s.grid.period ∧ t.grid.lines = s.grid.lines))
      ∧ (s.grid.n + 1 ≠ s.grid.lines →
          t.grid.n = s.grid.n + 1 ∧ t.grid.tag = s.grid.tag ∧ t.grid.frameCount = s.grid.frameCount
          ∧ t.grid.period = s.grid.period ∧ t.grid.lines = s.grid.lines)
      ∧ (∀ p, t.grid.n < t.grid.imageLines → t.grid.phase.get p =
          min (((s.port p).settings.phase : Int) + (s.port p).servo.trim).toNat (t.grid.period - 1))
      ∧ (∀ p, t.grid.imageLines ≤ t.grid.n → t.grid.phase.get p = s.grid.phase.get p)
      ∧ t.flagUnit.link = s.flagUnit.link
      ∧ t.hasFlag .markerLost = s.hasFlag .markerLost ∧ t.hasFlag .realigned = s.hasFlag .realigned

/-- R4, R9, R10: a flywheel line start, a miss, at the expiry of the fit window: the grid's own numbers, and, by LineStartActs
and PeriodComposed, the frame start, the ports and the period. `looked` is the grid state after the look back at the frame
that has just ended. That P and G stay also at a frame end whose eighth miss takes LOCKING to FREE is the model's reading
(assumption log 7); the order of what the rules leave open is assumption log 8. -/
def Obligations.FlywheelStartsLine : Prop :=
  ∀ s : State, s.resetLow = false → (s.grid.state = .locking ∨ s.grid.state = .locked) →
    s.timebase = s.grid.prediction + 8 → s.grid.n < s.grid.lines →
    let frameEnd := s.grid.n + 1 = s.grid.lines
    let looked : GridState :=
      if s.grid.state = .locking ∧ frameEnd ∧ s.grid.frameMiss = false ∧ 2 ≤ s.grid.lockRun + 1 then .locked
      else s.grid.state
    ∃ t, exec .fitWindowExpiry s = .next t ∧ LineStartKeeps s t ∧ LineStartActs false s t ∧ PeriodComposed s t
      ∧ t.grid.refTime = s.grid.prediction
      ∧ t.grid.prediction = s.grid.prediction + BitVec.ofNat 32 s.grid.period
      ∧ t.grid.lineCount = s.grid.lineCount + 1
      ∧ t.grid.period = s.grid.period ∧ t.grid.lines = s.grid.lines
      ∧ (frameEnd → t.grid.n = 0 ∧ t.grid.tag = s.grid.tag + 1 ∧ t.grid.frameCount = s.grid.frameCount + 1)
      ∧ (¬frameEnd → t.grid.n = s.grid.n + 1 ∧ t.grid.tag = s.grid.tag ∧ t.grid.frameCount = s.grid.frameCount)
      ∧ (∀ p, t.grid.n < t.grid.imageLines → t.grid.phase.get p =
          min (((s.port p).settings.phase : Int) + (s.port p).servo.trim).toNat (t.grid.period - 1))
      ∧ (∀ p, t.grid.imageLines ≤ t.grid.n → t.grid.phase.get p = s.grid.phase.get p)
      ∧ t.grid.lockRun = 0
      ∧ (s.grid.missRun < 7 →
          t.grid.missRun = s.grid.missRun + 1 ∧ t.grid.frameMiss = true ∧ t.grid.state = looked
          ∧ t.hasFlag .markerLost = s.hasFlag .markerLost)
      ∧ (7 ≤ s.grid.missRun →
          t.grid.missRun = 0 ∧ t.grid.frameMiss = false
          ∧ t.grid.state = (if looked = .locked then .holdover else .free)
          ∧ t.hasFlag .markerLost = (s.hasFlag .markerLost || decide (looked = .locked)))
      ∧ t.flagUnit.link = { s.flagUnit.link with markerMisses := bump s.flagUnit.link.markerMisses }
      ∧ t.hasFlag .realigned = s.hasFlag .realigned

/-- R4, R5, R9, R11 to R13, R51, R86 to R97, R106: a line marker in each grid state; one that fits, off a frame boundary, starts
the next line as case 1 of R4. What that line start does beside the grid's own numbers is LineStartActs and PeriodComposed (its
order where the rules leave it open: assumption log 8). -/
def Obligations.LineMarkers : Prop :=
  ∀ (m : Byte) (period lines : Word) (s : State), s.resetLow = false → m.getLsbD 0 = false → s.grid.n < s.grid.lines →
    let fits := (s.timebase - (s.grid.prediction - 8)).toNat ≤ 16
    let waits := s.grid.state = .locking ∨ s.grid.state = .locked
    (¬waits → exec (.marker m period lines) s = .next s.afterGoodBlock)
    ∧ (waits → ¬fits → exec (.marker m period lines) s = .next s.afterGoodBlock)
    ∧ (waits → fits → s.grid.n + 1 = s.grid.lines → exec (.marker m period lines) s = .next s.afterGoodBlock)
    ∧ (waits → fits → s.grid.n + 1 ≠ s.grid.lines →
        ∃ t, exec (.marker m period lines) s = .next t ∧ LineStartKeeps s.afterGoodBlock t
          ∧ LineStartActs false s.afterGoodBlock t ∧ PeriodComposed s.afterGoodBlock t
          ∧ t.grid.refTime = s.timebase
          ∧ t.grid.prediction = s.timebase + BitVec.ofNat 32 s.grid.period
          ∧ t.grid.n = s.grid.n + 1 ∧ t.grid.lineCount = s.grid.lineCount + 1
          ∧ (∀ p, t.grid.n < t.grid.imageLines → t.grid.phase.get p =
              min (((s.port p).settings.phase : Int) + (s.port p).servo.trim).toNat (t.grid.period - 1))
          ∧ (∀ p, t.grid.imageLines ≤ t.grid.n → t.grid.phase.get p = s.grid.phase.get p)
          ∧ t.grid.missRun = 0
          ∧ t.grid.state = s.grid.state ∧ t.grid.lockRun = s.grid.lockRun ∧ t.grid.frameMiss = s.grid.frameMiss
          ∧ t.grid.tag = s.grid.tag ∧ t.grid.frameCount = s.grid.frameCount
          ∧ t.grid.period = s.grid.period ∧ t.grid.lines = s.grid.lines
          ∧ t.flagUnit.link = s.flagUnit.link
          ∧ t.hasFlag .markerLost = s.hasFlag .markerLost ∧ t.hasFlag .realigned = s.hasFlag .realigned)

/-- R6, R7, R8, R10, R30, R67: a frame marker that is not valid, one on time, and a realign, which clears every servo's
accumulator and abandons the calls that have not fallen due. What each line start does beside the grid's own numbers is
LineStartActs and PeriodComposed (its order where the rules leave it open: assumption log 8). -/
def Obligations.FrameMarkers : Prop :=
  ∀ (m : Byte) (period lines : Word) (s : State), s.resetLow = false → m.getLsbD 0 = true → s.grid.n < s.grid.lines →
    1 ≤ s.grid.delay →
    let valid := 1000 ≤ period.toNat ∧ period.toNat ≤ 8191 ∧ s.grid.imageLines + s.grid.delay ≤ lines.toNat
      ∧ lines.toNat ≤ 4095
    let onTime := (s.grid.state = .locking ∨ s.grid.state = .locked) ∧ s.grid.n + 1 = s.grid.lines
      ∧ (s.timebase - (s.grid.prediction - 8)).toNat ≤ 16 ∧ period.toNat = s.grid.period ∧ lines.toNat = s.grid.lines
    (¬valid → exec (.marker m period lines) s = .next (s.afterGoodBlock.setFlag .gridMismatch))
    ∧ (valid → onTime →
        ∃ t, exec (.marker m period lines) s = .next t ∧ LineStartKeeps s.afterGoodBlock t
          ∧ LineStartActs false s.afterGoodBlock t ∧ PeriodComposed s.afterGoodBlock t
          ∧ t.grid.refTime = s.timebase
          ∧ t.grid.prediction = s.timebase + BitVec.ofNat 32 s.grid.period
          ∧ t.grid.n = 0 ∧ t.grid.lineCount = s.grid.lineCount + 1
          ∧ t.grid.tag = s.grid.tag + 1 ∧ t.grid.frameCount = s.grid.frameCount + 1
          ∧ t.grid.period = s.grid.period ∧ t.grid.lines = s.grid.lines
          ∧ (∀ p, 0 < t.grid.imageLines → t.grid.phase.get p =
              min (((s.port p).settings.phase : Int) + (s.port p).servo.trim).toNat (t.grid.period - 1))
          ∧ t.flagUnit.link = s.flagUnit.link
          ∧ t.hasFlag .markerLost = s.hasFlag .markerLost ∧ t.hasFlag .realigned = s.hasFlag .realigned
          ∧ t.grid.missRun = 0 ∧ t.grid.frameMiss = false
          ∧ (s.grid.state = .locked → t.grid.state = .locked ∧ t.grid.lockRun = s.grid.lockRun)
          ∧ (s.grid.state = .locking → s.grid.frameMiss = true → t.grid.state = .locking ∧ t.grid.lockRun = s.grid.lockRun)
          ∧ (s.grid.state = .locking → s.grid.frameMiss = false →
              (s.grid.lockRun = 0 → t.grid.state = .locking ∧ t.grid.lockRun = 1)
              ∧ (s.grid.lockRun = 1 → t.grid.state = .locked ∧ t.grid.lockRun = 0)))
    ∧ (valid → ¬onTime →
        ∃ t, exec (.marker m period lines) s = .next t ∧ LineStartKeeps s.afterGoodBlock t
          ∧ LineStartActs true s.afterGoodBlock t ∧ PeriodComposed s.afterGoodBlock t
          ∧ t.grid.state = .locking
          ∧ t.grid.refTime = s.timebase
          ∧ t.grid.prediction = s.timebase + period.zeroExtend 32
          ∧ t.grid.n = 0 ∧ t.grid.lineCount = s.grid.lineCount + 1
          ∧ t.grid.tag = s.grid.tag + 1 ∧ t.grid.frameCount = s.grid.frameCount + 1
          ∧ t.grid.period = period.toNat ∧ t.grid.lines = lines.toNat
          ∧ (∀ p, 0 < t.grid.imageLines → t.grid.phase.get p =
              min (((s.port p).settings.phase : Int) + (s.port p).servo.trim).toNat (t.grid.period - 1))
          ∧ t.grid.missRun = 0 ∧ t.grid.lockRun = 0 ∧ t.grid.frameMiss = false
          ∧ t.flagUnit.link = s.flagUnit.link
          ∧ t.hasFlag .markerLost = s.hasFlag .markerLost ∧ t.hasFlag .realigned = true
          ∧ ∀ p, (t.port p).servo = { (s.port p).servo with acc := 0, samples := 0, align := .unknown })

/-- R2, R9, R10, R13, R16, R65: every step keeps the grid's ranges, n within the frame, F + D within every frame and every
call phase within 0 to P − 1. -/
def Obligations.StepKeepsGridLawful : Prop :=
  ∀ s t : State, s.grid.Lawful → step s = .next t → t.grid.Lawful

/-! ### Board lanes and line calls -/

/-- R27, R28, R29, R43: what a port does with a call that falls due. `committed` and `slots` are the figures of R28. -/
def Obligations.CallFallsDue : Prop :=
  ∀ (p : PortId) (d : DueCall) (s : State), s.resetLow = false → s.grid.due.get p = some d → d.time = s.timebase →
    (s.port p).KeepsStoreLaw →
    let q := s.port p
    let handed := { s with grid := { s.grid with due := s.grid.due.set p none } }
    let committed := q.store.cellsHeld + q.callList.length * q.settings.lineLen
    let slots := q.store.ring.length + q.callList.length
    let may :=
      (q.withhold = .opened ∧ q.settings.lineLen ≤ 1024 - committed ∧ slots ≠ 32 ∧ q.callList.length ≠ 16)
      ∨ (q.withhold = .withholding ∧ q.settings.resume ≤ 1024 - committed ∧ slots < 32 ∧ q.callList.length < 16)
    (¬(q.settings.enabled = true ∧ q.lane.state = .up) →
      exec (.callDue p) s = .next (handed.setPort p { q with pendingCall := false }))
    ∧ (q.settings.enabled = true → q.lane.state = .up → may →
      exec (.callDue p) s = .next (handed.setPort p
        { q with
          pendingCall := false
          withhold := .opened
          callList := q.callList ++ [⟨d.tag, d.line, d.callCount, d.lineStart⟩]
          store := { q.store with
            reservedCells := q.store.reservedCells + q.settings.lineLen
            reservedDescs := q.store.reservedDescs + 1 }
          lane := { q.lane with out := callGroup d.tag d.line } }))
    ∧ (q.settings.enabled = true → q.lane.state = .up → ¬may →
      exec (.callDue p) s = .next
        (((handed.setPort p { q with pendingCall := false, withhold := .withholding }).countPort p
          fun c => { c with callsWithheld := bump c.callsWithheld }).setFlag (.port p .callWithheld)))

/-- R19: a signal, and the symbols a lane counts in ACQUIRING; a DOWN lane receives nothing. That a signal reported on a lane
that is ACQUIRING or UP is only noted is the model's (assumption log 3), and so is that both signals are only noted while RESETN
is low (assumption log 13). -/
def Obligations.LaneAcquires : Prop :=
  (∀ (p : PortId) (s : State),
    let noted := fun signal : Bool => (Host.Outcome.next
      (s.setPort p { s.port p with lane := { (s.port p).lane with signal := signal } }) : Host.Outcome State Fault Refusal)
    (s.resetLow = true → exec (.laneSignalPresent p) s = noted true ∧ exec (.laneSignalLost p) s = noted false)
    ∧ (s.resetLow = false → (s.port p).lane.state ≠ .down → exec (.laneSignalPresent p) s = noted true))
  ∧ ∀ (p : PortId) (sym : LaneSymbol) (s : State), s.resetLow = false →
    let q := s.port p
    (q.lane.state = .down →
      exec (.laneSignalPresent p) s = .next (s.setPort p
        { q with lane := { q.lane with signal := true, state := .acquiring, acquireRun := 0 } })
      ∧ exec (.laneSymbol p sym) s = .next s
      ∧ exec (.laneSignalLost p) s = .next (s.setPort p { q with lane := { q.lane with signal := false } }))
    ∧ (q.lane.state = .acquiring →
      (q.lane.acquireRun < 63 → exec (.laneSymbol p .idle) s = .next (s.setPort p
        { q with lane := { q.lane with acquireRun := q.lane.acquireRun + 1 } }))
      ∧ (q.lane.acquireRun = 63 → exec (.laneSymbol p .idle) s = .next (s.setPort p
        { q with lane := { q.lane with acquireRun := 64, state := .up, errorAges := [], rx := .waiting } }))
      ∧ (sym ≠ .idle → exec (.laneSymbol p sym) s = .next (s.setPort p
        { q with lane := { q.lane with acquireRun := 0 } }))
      ∧ exec (.laneSignalLost p) s = .next (s.setPort p
        { q with lane := { q.lane with signal := false, state := .down, acquireRun := 0 } }))

/-- R20, R21, R54: an UP lane is lost by its signal's loss, or by the errored symbol that brings the errored symbols among the
latest 1024 to 16 (`ages` says, for each of them, how many symbols came after it). That this symbol goes no further, neither
as a stray nor as a payload byte, is the model's reading (assumption log 6), and so is the acquire run of 0 that a lost lane
in DOWN is left with (assumption log 19). -/
def Obligations.LaneIsLost : Prop :=
  ∀ (p : PortId) (s : State), s.resetLow = false → (s.port p).lane.state = .up →
    let q := s.port p
    let counted := if q.store.filling?.isSome then s.countPort p fun c => { c with abandoned := bump c.abandoned } else s
    let lost := fun lane : Lane =>
      { q with
        callList := []
        store := { q.store with
          ring := q.store.ring.filter fun d => d.state != .filling
          reservedCells := q.store.reservedCells - q.callList.length * q.settings.lineLen
          reservedDescs := q.store.reservedDescs - q.callList.length }
        lane := lane
        servo := { q.servo with acc := 0, samples := 0, align := .unknown } }
    let ages := 0 :: (q.lane.errorAges.map (· + 1)).filter (· < 1024)
    exec (.laneSignalLost p) s = .next ((counted.setPort p (lost
        { q.lane with signal := false, state := .down, acquireRun := 0, rx := .waiting })).setFlag (.port p .laneDown))
    ∧ (16 ≤ ages.length →
        exec (.laneSymbol p .errored) s = .next ((counted.setPort p (lost
          { q.lane with
            errorAges := ages
            state := if q.lane.signal then .acquiring else .down
            acquireRun := 0
            rx := .waiting })).setFlag (.port p .laneDown)))

/-- R20, R33, R36: on an UP lane, the symbols that only move reception, an errored symbol that does not lose the lane among
them, and the errored symbols and delimiters that end a packet within its header as a stray; every symbol enters the error
window (`ages`: for each errored symbol among the latest 1024, how many came after it). -/
def Obligations.ReceptionStates : Prop :=
  ∀ (p : PortId) (sym : LaneSymbol) (s : State), s.resetLow = false → (s.port p).lane.state = .up →
    let q := s.port p
    let aged := (q.lane.errorAges.map (· + 1)).filter (· < 1024)
    let ages := if sym = .errored then 0 :: aged else aged
    (sym = .errored → ages.length < 16) →
    let withRx := fun rx : Reception => s.setPort p { q with lane := { q.lane with errorAges := ages, rx := rx } }
    let moved := fun rx : Reception => (Host.Outcome.next (withRx rx) : Host.Outcome State Fault Refusal)
    let stray := fun rx : Reception => (Host.Outcome.next
      (((withRx rx).countPort p fun c => { c with stray := bump c.stray }).setFlag (.port p .stray)) :
        Host.Outcome State Fault Refusal)
    let begun : Reception := if q.settings.enabled then .header [] else .discarding
    (q.lane.rx = .waiting → sym = .startDelim → exec (.laneSymbol p sym) s = moved begun)
    ∧ (q.lane.rx = .waiting → sym ≠ .startDelim → exec (.laneSymbol p sym) s = moved .waiting)
    ∧ (q.lane.rx = .discarding → sym = .startDelim → exec (.laneSymbol p sym) s = moved begun)
    ∧ (q.lane.rx = .discarding → sym = .endDelim → exec (.laneSymbol p sym) s = moved .waiting)
    ∧ (q.lane.rx = .discarding → sym ≠ .startDelim → sym ≠ .endDelim → exec (.laneSymbol p sym) s = moved .discarding)
    ∧ (∀ bytes, q.lane.rx = .header bytes → sym = .idle → exec (.laneSymbol p sym) s = moved (.header bytes))
    ∧ (∀ bytes b, q.lane.rx = .header bytes → sym = .data b → bytes.length < 3 →
        exec (.laneSymbol p sym) s = moved (.header (bytes ++ [b])))
    ∧ (∀ bytes, q.lane.rx = .header bytes → sym = .errored → exec (.laneSymbol p sym) s = stray .discarding)
    ∧ (∀ bytes, q.lane.rx = .header bytes → sym = .startDelim → exec (.laneSymbol p sym) s = stray (.header []))
    ∧ (∀ bytes, q.lane.rx = .header bytes → sym = .endDelim → exec (.laneSymbol p sym) s = stray .waiting)
    ∧ (∀ k, q.lane.rx = .storing k → sym = .idle → exec (.laneSymbol p sym) s = moved (.storing k))

/-- R34: the last byte of a header that fails its validation or matches no Call List entry makes the packet a stray. The fields
are those of the header's layout (section 10.7). -/
def Obligations.HeaderIsStray : Prop :=
  ∀ (p : PortId) (b0 b1 b2 b3 : Byte) (s : State), s.resetLow = false → (s.port p).lane.state = .up →
    (s.port p).lane.rx = .header [b0, b1, b2] →
    let q := s.port p
    let boardId := b0.toNat / 32
    let tag : BitVec 2 := b0.extractLsb' 3 2
    let line := 256 * (b1.toNat % 16) + b2.toNat
    (boardId ≠ q.settings.boardId ∨ b3 = 0 ∨ 240 < b3.toNat ∨ s.grid.imageLines ≤ line
      ∨ ∀ e ∈ q.callList, ¬(e.tag = tag ∧ e.line = line)) →
    exec (.laneSymbol p (.data b3)) s = .next (((s.setPort p { q with lane := { q.lane with
        errorAges := (q.lane.errorAges.map (· + 1)).filter (· < 1024)
        rx := .discarding } }).countPort p fun c => { c with stray := bump c.stray }).setFlag (.port p .stray))

/-- R34, R35, R40, R43, R45, R47: the last byte of a header that matches the entry `e`, with `older` entries before it in the
Call List: the admission gives the state `u`, and with a HEADER capture the servo then takes its sample at once (what a sample
does is the matter of ServoTakesSample). -/
def Obligations.HeaderMatches : Prop :=
  ∀ (p : PortId) (b0 b1 b2 b3 : Byte) (older newer : List CallEntry) (e : CallEntry) (s : State),
    s.resetLow = false → (s.port p).lane.state = .up → (s.port p).lane.rx = .header [b0, b1, b2] →
    b0.toNat / 32 = (s.port p).settings.boardId → b3 ≠ 0 → b3.toNat ≤ 240 → e.line < s.grid.imageLines →
    e.tag = b0.extractLsb' 3 2 → e.line = 256 * (b1.toNat % 16) + b2.toNat →
    (s.port p).callList = older ++ e :: newer → (∀ x ∈ older, ¬(x.tag = e.tag ∧ x.line = e.line)) →
    let q := s.port p
    let cells := min b3.toNat q.settings.lineLen
    let a := min (s.timebase - e.lineStart).toNat 65535
    ∃ u owned,
      exec (.laneSymbol p (.data b3)) s = .next (if q.settings.capture = .header then servoSample p a u else u)
      ∧ LaneKeeps p s u
      ∧ (u.port p).callList = newer
      ∧ (u.port p).store.ring = q.store.ring ++
          [⟨e.tag, e.line, e.callCount, cells, .filling, none,
            if q.settings.capture = .header then some a else none, decide (q.settings.lineLen < b3.toNat), owned⟩]
      ∧ (∀ c ∈ owned, ∀ d ∈ q.store.ring, c ∉ d.cells)
      ∧ (∀ addr, Memory.read (u.port p).store.pool addr =
          if owned.any (fun c => c.val == addr / 32) then 0 else Memory.read q.store.pool addr)
      ∧ (u.port p).store.reservedCells = q.store.reservedCells - older.length * q.settings.lineLen - q.settings.lineLen
      ∧ (u.port p).store.reservedDescs = q.store.reservedDescs - older.length - 1
      ∧ (u.port p).lane = { q.lane with
          errorAges := (q.lane.errorAges.map (· + 1)).filter (· < 1024)
          rx := .storing ⟨b3.toNat, 0, checkOf [b0, b1, b2, b3], 0, false, e.lineStart⟩ }
      ∧ (u.port p).servo = q.servo
      ∧ u.flagUnit.flags = s.flagUnit.flags
      ∧ u.flagUnit.ports.get p =
          { s.flagUnit.ports.get p with
            unanswered := addSat (s.flagUnit.ports.get p).unanswered older.length
            truncated := if q.settings.lineLen < b3.toNat then bump (s.flagUnit.ports.get p).truncated
              else (s.flagUnit.ports.get p).truncated }

/-- R36, R37, R46: a byte of a packet being stored; an errored symbol is the byte 0x00. A payload byte below 32 times the cell
count held goes to its place in the FILLING descriptor's cells and into the running check, and every other byte of the pool
stays; one of the cells beyond only enters the check; the two check bytes are collected; a byte after them is discarded. The
errored mark is set by an errored symbol in payload or check. Not the last payload byte of a TAIL capture (R35). That a
packet's byte count stops one beyond its check is the model's (assumption log 22), and so is that an errored symbol after the
check bytes counts as a byte of the packet and sets no mark (assumption log 34). -/
def Obligations.PayloadByteIsStored : Prop :=
  ∀ (p : PortId) (b : Byte) (errored : Bool) (k : Packet) (s : State),
    s.resetLow = false → (s.port p).lane.state = .up → (s.port p).lane.rx = .storing k →
    let q := s.port p
    let n := 32 * k.cellCount
    let aged := (q.lane.errorAges.map (· + 1)).filter (· < 1024)
    let ages := if errored then 0 :: aged else aged
    (errored = true → b = 0 ∧ ages.length < 16) →
    ¬(k.received + 1 = n ∧ q.settings.capture = .tail) →
    let sym : LaneSymbol := if errored then .errored else .data b
    let checked : Packet := { k with
      received := k.received + 1
      running := checkByte k.running b
      errored := k.errored || errored }
    let moved := fun packet : Packet => (Host.Outcome.next (s.setPort p
      { q with lane := { q.lane with errorAges := ages, rx := .storing packet } }) : Host.Outcome State Fault Refusal)
    (∀ (d : Descriptor) (c : Fin 1024), q.store.filling? = some d → d.cells[k.received / 32]? = some c →
      k.received < n → k.received < 32 * d.count → q.store.pool.wf = true →
      ∃ pool,
        exec (.laneSymbol p sym) s = .next (s.setPort p
          { q with
            lane := { q.lane with errorAges := ages, rx := .storing checked }
            store := { q.store with pool := pool } })
        ∧ Memory.read pool (32 * c.val + k.received % 32) = b
        ∧ ∀ a, a ≠ 32 * c.val + k.received % 32 → Memory.read pool a = Memory.read q.store.pool a)
    ∧ (∀ d, q.store.filling? = some d → k.received < n → 32 * d.count ≤ k.received →
        exec (.laneSymbol p sym) s = moved checked)
    ∧ (n ≤ k.received → k.received < n + 2 → exec (.laneSymbol p sym) s = moved
        { k with
          received := k.received + 1
          check := (k.check <<< 8) ||| b.zeroExtend 16
          errored := k.errored || errored })
    ∧ (n + 2 ≤ k.received → exec (.laneSymbol p sym) s = moved { k with received := n + 3 })

/-- R36, R37, R48: a delimiter ends a packet: the FILLING descriptor becomes COMPLETE when the packet is well framed, its check
equals the one received and neither the errored nor the truncated mark is set, else DAMAGED. -/
def Obligations.DelimiterCompletesPacket : Prop :=
  ∀ (p : PortId) (start : Bool) (k : Packet) (d : Descriptor) (s : State),
    s.resetLow = false → (s.port p).lane.state = .up → (s.port p).lane.rx = .storing k →
    (s.port p).store.filling? = some d →
    let q := s.port p
    let good := k.received = 32 * k.cellCount + 2 ∧ k.running = k.check ∧ k.errored = false ∧ d.truncated = false
    exec (.laneSymbol p (if start then .startDelim else .endDelim)) s = .next (s.setPort p
      { q with
        store := { q.store with ring := q.store.ring.map fun x =>
          if x.state = .filling then
            (if good then { x with state := .complete, result := some .complete }
              else { x with state := .damaged, result := some .damaged })
          else x }
        lane := { q.lane with
          errorAges := (q.lane.errorAges.map (· + 1)).filter (· < 1024)
          rx := if start then .header [] else .waiting } })

/-- The four Board Lane blocks share no state with one another (02_board_lanes_and_line_calls.md): a lane's event leaves every
other block and every other port as they were. -/
def Obligations.LaneEventsKeepTheRest : Prop :=
  ∀ (p : PortId) (i : Instr) (s t : State),
    (i = .laneSignalPresent p ∨ i = .laneSignalLost p ∨ ∃ sym, i = .laneSymbol p sym) →
    exec i s = .next t → LaneKeeps p s t


/-! ### Invariants of every step -/

/-- R44, R42, R31, R2, R70, R105, R125, R142, R147: the laws the model's invariants say hold after reset. -/
def Obligations.InvariantsHoldAtReset : Prop :=
  let s := State.reset
  s.grid.Lawful ∧ s.KeepsStoreLaw ∧ (∀ p, (s.port p).store.CellsOwned ∧ (s.port p).OneAtATime ∧ (s.port p).servo.InRange)
    ∧ (∀ p, s.CallsOrdered p)
    ∧ s.MemorySound ∧ s.table.Lawful ∧ s.link.Lawful ∧ s.bus.KeepsCredit ∧ s.anc.Lawful ∧ s.mail.Lawful

/-- R44: in every store, cells held and reserved stay within 1024, descriptors and reservations within 32, and the Call List
within 16 entries (R28, R43). -/
def Obligations.StepKeepsStoreLaw : Prop :=
  ∀ s t : State, s.KeepsStoreLaw → step s = .next t → t.KeepsStoreLaw

/-- R31, R39, R42, R45: no cell is held by two descriptors, every descriptor holds as many cells as it counts, at most one is
FILLING and at most one SENDING, in states that keep the law of R44. Call counts rise strictly along every ring and Call
List, as long as no call held is so old that the modular comparison of section 5.5 would not order it before the next line's
(2^31 − 1 lines). -/
def Obligations.StepKeepsOwnership : Prop :=
  (∀ s t : State, s.KeepsStoreLaw → (∀ p, (s.port p).store.CellsOwned ∧ (s.port p).OneAtATime) → step s = .next t →
    ∀ p, (t.port p).store.CellsOwned ∧ (t.port p).OneAtATime)
  ∧ ∀ s t : State, (∀ p, s.CallsOrdered p) →
      (∀ p, ∀ c ∈ (s.port p).callCounts, (s.grid.lineCount - c).toNat < 2147483647) → step s = .next t →
      ∀ p, t.CallsOrdered p

/-- R58, R60 to R62, R68, R70, R71, R142 to R145, R147, R39: every step keeps the servos in their ranges, the slot tables,
the ancillary buffer and the mailboxes in theirs, and every byte store in canonical form within its addresses. -/
def Obligations.StepKeepsBlocksSound : Prop :=
  ∀ s t : State, step s = .next t →
    ((∀ p, (s.port p).servo.InRange) → ∀ p, (t.port p).servo.InRange)
    ∧ (s.table.Lawful → t.table.Lawful)
    ∧ (s.anc.Lawful → t.anc.Lawful)
    ∧ (s.mail.Lawful → t.mail.Lawful)
    ∧ (s.MemorySound → t.MemorySound)

/-- R105, R107, R110 to R114, R120: the class in force never exceeds the ceiling and stands exactly while frames run, a
scheduled class stays at or below the ceiling that will stand, and the runs stay in their ranges. -/
def Obligations.StepKeepsLinkLawful : Prop :=
  ∀ s t : State, s.link.Lawful → step s = .next t → t.link.Lawful

/-- R125: neither origin ever has more than 8 outstanding transactions, and every queue holds its own origin's. -/
def Obligations.StepKeepsCredit : Prop :=
  ∀ s t : State, s.bus.KeepsCredit → step s = .next t → t.bus.KeepsCredit

/-- R72, R78: the ACTIVE bank and its generation change only at a frame start swap (the new line is line 0), where a pending
commit puts the STAGED bank in force and sets COMMIT_DONE, and at a reset. -/
def Obligations.ActiveBankChanges : Prop :=
  ∀ (i : Instr) (s t : State), exec i s = .next t → (∀ r b, i ≠ .powerOn r b) → i ≠ .replyEnd →
    (i ≠ .predictionLineStart → i ≠ .fitWindowExpiry → (∀ m p g, i ≠ .marker m p g) →
      t.table.active = s.table.active ∧ t.table.generation = s.table.generation)
    ∧ ((t.table.active = s.table.active ∧ t.table.generation = s.table.generation)
      ∨ (t.grid.n = 0 ∧ s.table.commitPending = true ∧ t.table.active = s.table.staged
        ∧ t.table.generation = s.table.generation + 1 ∧ t.table.commitPending = false ∧ t.hasFlag .commitDone = true))

/-- R160: a flag once set stays set until a CLEAR-FLAGS or a reset. Beside the two commands named, a byte on MRX may complete
a CLEAR-FLAGS record, and the end of a reply may dispatch a held one. -/
def Obligations.FlagsLatch : Prop :=
  ∀ (i : Instr) (s t : State), i.wellFormed = true → exec i s = .next t →
    (∀ r b, i ≠ .powerOn r b) → (∀ ns, i ≠ .clearFlags ns) → (∀ b, i ≠ .mgmtByte b) → i ≠ .replyEnd →
    ∀ f : Flag, s.hasFlag f = true → t.hasFlag f = true

/-! ### The Skew Servo -/

/-- R35, R47, R59 to R63: what a sample does to a servo, and the last payload byte of a TAIL capture, which takes one: of a
packet whose cells are all held, and of one cut to the line length. -/
def Obligations.ServoTakesSample : Prop :=
  ∀ (p : PortId) (a : Nat) (s : State),
    let q := s.port p
    let x := q.settings
    let v := q.servo
    let sum := v.acc + max (-2047) (min 2047 ((a : Int) - x.target))
    let m := sum.tdiv 16
    let raw := v.trim - max (-(x.stepMax : Int)) (min (x.stepMax : Int) (m.tdiv 2))
    (x.mode = .off → servoSample p a s = s)
    ∧ (x.mode = .track → v.samples < 15 →
        servoSample p a s = s.setPort p { q with servo := { v with acc := sum, samples := v.samples + 1 } })
    ∧ (x.mode = .track → v.samples = 15 →
        servoSample p a s =
          ((s.setPort p { q with servo :=
            { trim := max (-512) (min 511 raw)
              acc := 0
              samples := 0
              lastMean := m
              align := if m.natAbs ≤ x.window then .aligned else .drifting } }).setFlagIf
            (decide (raw < -512 ∨ 511 < raw)) (.port p .trimLimit)).setFlagIf
            (decide (x.window < m.natAbs ∧ v.align ≠ .drifting)) (.port p .drifting))
    ∧ (∀ (b : Byte) (errored : Bool) (k : Packet) (d : Descriptor),
        s.resetLow = false → q.lane.state = .up → q.lane.rx = .storing k → x.capture = .tail →
        q.store.filling? = some d → k.received + 1 = 32 * k.cellCount →
        a = min (s.timebase - k.lineStart).toNat 65535 →
        let aged := (q.lane.errorAges.map (· + 1)).filter (· < 1024)
        let ages := if errored then 0 :: aged else aged
        (errored = true → b = 0 ∧ ages.length < 16) →
        let sampled := fun pool : Memory => (Host.Outcome.next (servoSample p a (s.setPort p
          { q with
            lane := { q.lane with
              errorAges := ages
              rx := .storing { k with
                received := k.received + 1
                running := checkByte k.running b
                errored := k.errored || errored } }
            store := { q.store with
              pool := pool
              ring := q.store.ring.map fun y => if y.state = .filling then { y with capture := some a } else y } })) :
          Host.Outcome State Fault Refusal)
        (∀ c : Fin 1024, d.count = k.cellCount → d.cells[k.cellCount - 1]? = some c →
          exec (.laneSymbol p (if errored then .errored else .data b)) s
            = sampled (Memory.write q.store.pool (c.val * 32 + 31) b))
        ∧ (d.count < k.cellCount →
          exec (.laneSymbol p (if errored then .errored else .data b)) s = sampled q.store.pool))

/-! ### The Weave Table and the Weave Engine -/

/-- R75, R79, R80, R81, R93: the capacity, the shed set and the cut point of a frame. Entries are shed from priority 3 down and
from the latest in table order, no more than the capacity asks; what the entries carry never exceeds it. A frame with no class
in force has no capacity, sheds nothing and has no cut point. -/
def Obligations.ShedAndCut : Prop :=
  (∀ (g : Engine) (bank : List SlotEntry) (period cls : Nat), BankSound bank → 1000 ≤ period → period ≤ 8191 → cls ≤ 5 →
    let c := period * [3, 6, 10, 15, 20, 26].getD cls 0 / 256 - 2
    let f := g.atFrameStart period (some cls) bank
    let shed := fun i : Nat => f.shed.getD i false
    let unshed := ((bank.zipIdx.filter fun e => !shed e.2).map (·.1.quota)).sum
    let carried := (bank.zipIdx.map fun e => f.entryCells e.2 e.1.quota).sum
    f.frameClass = some cls ∧ f.capacity = some c ∧ f.shed.length = 32 ∧ (∀ i, bank.length ≤ i → shed i = false)
    ∧ (∀ (i : Nat) (e : SlotEntry), bank[i]? = some e → shed i = true → e.priority ≠ 0)
    ∧ (∀ (i j : Nat) (e d : SlotEntry), bank[i]? = some e → bank[j]? = some d → shed i = true → shed j = false →
        d.priority < e.priority ∨ (d.priority = e.priority ∧ j < i))
    ∧ (∀ (i : Nat) (e : SlotEntry), bank[i]? = some e → shed i = true →
        (∀ (j : Nat) (d : SlotEntry), bank[j]? = some d → shed j = true →
          e.priority < d.priority ∨ (e.priority = d.priority ∧ i ≤ j)) → c < unshed + e.quota)
    ∧ (c < unshed → ∀ (i : Nat) (e : SlotEntry), bank[i]? = some e → e.priority ≠ 0 → shed i = true)
    ∧ (f.cut = none ↔ unshed ≤ c)
    ∧ carried = min c unshed
    ∧ (∀ k, f.cut = some k → ∃ e, bank[k.index]? = some e ∧ shed k.index = false ∧ k.cells < e.quota)
    ∧ f.prevShed = g.shed.any id
    ∧ f = { g with
        prevShed := f.prevShed
        frameClass := f.frameClass
        capacity := f.capacity
        shed := f.shed
        cut := f.cut })
  ∧ ∀ (g : Engine) (bank : List SlotEntry) (period : Nat),
    g.atFrameStart period none bank = { g with
      prevShed := g.shed.any id
      frameClass := none
      capacity := none
      shed := List.replicate 32 false
      cut := none }

/-- R77, R78, R79, R82, R85, R112, R146: what a frame start does in the link, the table, the engine and the ancillary
buffer. P is the notice's (R12). With no class in force for the frame the engine's capacity is none, nothing is shed and there
is no cut; with one they are those of ShedAndCut. -/
def Obligations.FrameStartActs : Prop :=
  ∀ (nt : FrameNotice) (s : State),
    let k := s.link
    let link :=
      if k.state = .up ∧ k.scheduled.isSome then
        (if k.framesRunning then
          { k with
            inForce := k.scheduled
            scheduled := none
            ceiling := k.pendingCeiling.getD k.ceiling
            pendingCeiling := none }
        else { k with framesRunning := true, inForce := k.scheduled, scheduled := none })
      else k
    let cls := if link.framesRunning then link.inForce else none
    let room := capacityOf nt.period (cls.getD link.ceiling)
    let fits := 1 ≤ s.table.staged.length ∧ priorityZeroTotal s.table.staged ≤ room
      ∧ ∀ p ∈ PortId.all, (s.port p).settings.enabled = true → (s.port p).settings.lineLen ≤ quotaOf s.table.staged p
    let swaps := s.table.commitPending = true ∧ fits
    let drops := s.table.commitPending = true ∧ ¬fits
    let table : WeaveTable :=
      { staged := s.table.staged
        active := if swaps then s.table.staged else s.table.active
        commitPending := false
        generation := if swaps then s.table.generation + 1 else s.table.generation }
    let engine := s.engine.atFrameStart nt.period cls table.active
    let uncarried := { s.engine with
      prevShed := s.engine.shed.any id
      frameClass := none
      capacity := none
      shed := List.replicate 32 false
      cut := none }
    (cls = none → engine = uncarried)
    ∧ (∀ c, cls = some c → engine.frameClass = some c ∧ engine.capacity = some (capacityOf nt.period c))
    ∧ frameStart nt s =
      ((((({ s with link := link, table := table, engine := engine, anc := { s.anc with repeatPos := 0 } }).setFlagIf
        (decide swaps) .commitDone).setFlagIf (decide drops) .commitDropped).setFlagIf
        (engine.shed.any id && !s.engine.shed.any id) .shedding).setFlagIf engine.cut.isSome .cut)

/-- R32, R38, R43, R49, R50, R52, R53, R88, R89, R92: the take of a port for the wanted call count `w`: the stale purge, the
pruning of the Call List with its reservations, the decision on the oldest descriptor left, discard-rest where a FILLING
descriptor goes as stale or late, and the frame. That CUT_LINES and SHED_LINES count while the frame has a
capacity, also in a period that is not carried, is the model's reading of R92 and R103 (assumption log 29). -/
def Obligations.TakeDecides : Prop :=
  ∀ (p : PortId) (w : LineCount) (s : State),
    let q := s.port p
    let older := fun c : LineCount => decide (1 ≤ (w - c).toNat ∧ (w - c).toNat < 2147483648)
    let left := q.store.ring.filter fun d => !older d.callCount
    let kept := q.callList.filter fun e => !older e.callCount && e.callCount != w
    let c := s.flagUnit.ports.get p
    let t := takeLine p w s
    let u := t.port p
    let n := t.flagUnit.ports.get p
    let concealed := t.engine.outcome.get p = .concealed ∧ t.engine.sending = s.engine.sending
      ∧ n.concealed = bump c.concealed ∧ n.linesTaken = c.linesTaken ∧ t.hasFlag (.port p .concealed) = true
      ∧ n.cutLines = c.cutLines ∧ n.shedLines = c.shedLines
    let sent := fun (d : Descriptor) (rest : List Descriptor) =>
      t.engine.outcome.get p = .sent ∧ t.engine.sending.get p = some ⟨w, 0⟩
      ∧ u.store.ring = { d with state := .sending } :: rest
      ∧ n.linesTaken = bump c.linesTaken ∧ n.concealed = c.concealed ∧ n.late = c.late
      ∧ t.hasFlag (.port p .concealed) = s.hasFlag (.port p .concealed)
      ∧ (if s.engine.capacity.isSome ∧ s.room p < d.count then
          (if s.portIsCut p then n.cutLines = bump c.cutLines ∧ n.shedLines = c.shedLines
            else n.cutLines = c.cutLines ∧ n.shedLines = bump c.shedLines)
        else n.cutLines = c.cutLines ∧ n.shedLines = c.shedLines)
    let gone := q.callList.length - kept.length
    let stale := ∃ d ∈ q.store.ring, older d.callCount = true ∧ d.state = .filling
    let late := ∃ d rest, left = d :: rest ∧ d.callCount = w ∧ d.state = .filling
    let damaged := ∃ d rest, left = d :: rest ∧ d.callCount = w ∧ d.state = .damaged
    (u.callList = kept ∧ u.settings = q.settings ∧ u.servo = q.servo ∧ u.store.pool = q.store.pool
      ∧ u.withhold = q.withhold ∧ u.pendingCall = q.pendingCall
      ∧ u.store.reservedCells = q.store.reservedCells - gone * q.settings.lineLen
      ∧ u.store.reservedDescs = q.store.reservedDescs - gone
      ∧ n.stale = addSat c.stale (q.store.ring.filter fun d => older d.callCount).length
      ∧ n.unanswered = addSat c.unanswered (q.callList.filter fun e => older e.callCount).length
      ∧ n.stray = c.stray ∧ n.callsWithheld = c.callsWithheld ∧ n.truncated = c.truncated ∧ n.abandoned = c.abandoned
      ∧ (∀ r, r ≠ p → t.port r = s.port r ∧ t.flagUnit.ports.get r = s.flagUnit.ports.get r)
      ∧ (∀ r, r ≠ p → t.engine.sending.get r = s.engine.sending.get r ∧ t.engine.outcome.get r = s.engine.outcome.get r)
      ∧ { t.engine with sending := s.engine.sending, outcome := s.engine.outcome } = s.engine
      ∧ (∀ f, f ≠ .port p .concealed → f ≠ .port p .damaged → t.hasFlag f = s.hasFlag f)
      ∧ (¬damaged → t.hasFlag (.port p .damaged) = s.hasFlag (.port p .damaged))
      ∧ t.flagUnit.masks = s.flagUnit.masks ∧ t.flagUnit.link = s.flagUnit.link ∧ t.flagUnit.bus = s.flagUnit.bus
      ∧ t.grid = s.grid ∧ t.table = s.table ∧ t.link = s.link ∧ t.bus = s.bus ∧ t.anc = s.anc ∧ t.mail = s.mail
      ∧ t.mgmt = s.mgmt ∧ t.resetLow = s.resetLow ∧ t.timebase = s.timebase ∧ t.pending = s.pending)
    ∧ (∀ k, q.lane.rx = .storing k → (stale ∨ late) → u.lane = { q.lane with rx := .discarding })
    ∧ (((∀ k, q.lane.rx ≠ .storing k) ∨ ¬(stale ∨ late)) → u.lane = q.lane)
    ∧ (∀ d rest, left = d :: rest → d.callCount = w → d.state = .complete → sent d rest ∧ n.damaged = c.damaged)
    ∧ (∀ d rest, left = d :: rest → d.callCount = w → d.state = .damaged →
        n.damaged = bump c.damaged ∧ t.hasFlag (.port p .damaged) = true
        ∧ (q.settings.policy = .pass → sent d rest)
        ∧ (q.settings.policy = .conceal → concealed ∧ u.store.ring = rest ∧ n.late = c.late))
    ∧ (∀ d rest, left = d :: rest → d.callCount = w → d.state = .filling →
        concealed ∧ u.store.ring = rest ∧ n.late = bump c.late ∧ n.damaged = c.damaged)
    ∧ ((left = [] ∨ ∃ d rest, left = d :: rest ∧ (d.callCount ≠ w ∨ d.state = .sending)) →
        concealed ∧ u.store.ring = left ∧ n.late = c.late ∧ n.damaged = c.damaged)

/-- R94, R98 to R100, R103, R109, R116: the cells of a carried period in their order: the two overhead cells, then each entry's
cells, a line cell while the SENDING line has one left and fill after it; after the last the frame idle pattern. While there
is no cell to take nothing happens (assumption log 3); that the frame idle pattern begins when the link would take another
cell is the model's choice (assumption log 23). Last, what the downlink carries: a training idle with the training answer
and the ceiling while frames do not run, else the cell, or the frame idle pattern. -/
def Obligations.CellsAreHandedOver : Prop :=
  ∀ s : State, s.resetLow = false →
    let takes := s.engine.carried = true ∧ s.link.framesRunning = true ∧ s.link.returnInFlight = false
    let given := fun (u : State) (kind : CellKind) (bytes : List Byte) =>
      (Host.Outcome.next { u with
        engine := { u.engine with handed := u.engine.handed + 1 }
        link := { u.link with cell := some ⟨kind, bytes⟩, returnInFlight := false } } : Host.Outcome State Fault Refusal)
    (¬takes → exec .cellHandover s = .next s)
    ∧ (takes → s.engine.handed = 0 → exec .cellHandover s = given s .header s.engine.header)
    ∧ (takes → s.engine.handed = 1 → exec .cellHandover s = given s .maintenance s.engine.maintenance)
    ∧ (∀ k, takes → s.engine.handed = k + 2 → s.slotCells.sum ≤ k →
        exec .cellHandover s = .next { s with link := { s.link with cell := none } })
    ∧ (∀ (k i : Nat) (e : SlotEntry), takes → s.engine.handed = k + 2 → s.table.active[i]? = some e →
        (s.slotCells.take i).sum ≤ k → k < (s.slotCells.take (i + 1)).sum →
        (e.source = .fill → exec .cellHandover s = given s (.slot i) (List.replicate 32 0))
        ∧ (∀ p, e.source = .port p →
            (∀ m d, s.engine.sending.get p = some m → (s.port p).store.sending? = some d → d.count ≤ m.lay) →
            exec .cellHandover s = given s (.slot i) (List.replicate 32 0))
        ∧ (∀ p m d c, e.source = .port p → s.engine.sending.get p = some m → (s.port p).store.sending? = some d →
            m.lay < d.count → d.cells[m.lay]? = some c →
            exec .cellHandover s = given
              { s with engine := { s.engine with
                sending := s.engine.sending.set p (some { m with lay := m.lay + 1 }) } }
              (.slot i) ((List.range 32).map fun j => Memory.read (s.port p).store.pool (32 * c.val + j))))
    ∧ (s.link.framesRunning = false → s.downlink = .trainingIdle (withCheck
        ((match s.link.answer with
          | .none => [0x00, 0xFF]
          | .accept c => [0x01, byteOf c]
          | .reject => [0x02, 0xFF]) ++ [byteOf s.link.ceiling] ++ List.replicate 27 0)))
    ∧ (∀ c, s.link.framesRunning = true → s.link.cell = some c → s.downlink = .cell c.bytes)
    ∧ (s.link.framesRunning = true → s.link.cell = none → s.downlink = .frameIdle)

/-- R99, R145, R146, R148: an ANC cell takes up to 32 bytes of the allowance and is filled up; a RETURN cell goes on with the
record in progress, or begins the next one from the sources by turns, or is fill. That a RETURN cell of fill is not waited
for by the next handover is the model's reading (assumption log 20), and so is the body of a reply record, two bytes for each
read word the reply holds (assumption log 32). -/
def Obligations.AncAndReturnCells : Prop :=
  ∀ (s : State) (k i : Nat) (e : SlotEntry), s.resetLow = false → s.engine.carried = true →
    s.link.framesRunning = true → s.link.returnInFlight = false → s.engine.handed = k + 2 →
    s.table.active[i]? = some e → (s.slotCells.take i).sum ≤ k → k < (s.slotCells.take (i + 1)).sum →
    let given := fun (u : State) (bytes : List Byte) (inFlight : Bool) =>
      (Host.Outcome.next { u with
        engine := { u.engine with handed := u.engine.handed + 1 }
        link := { u.link with cell := some ⟨.slot i, bytes⟩, returnInFlight := inFlight } } :
        Host.Outcome State Fault Refusal)
    let a := s.anc
    let n := min a.allowance 32
    let begins := fun src : ReturnSource => { s with mail := { s.mail with record := some ⟨src, 0⟩, lastSource := src } }
    let mailRecord := fun b : List Byte => withCheck (2 :: (be16n b.length ++ b))
    let replyRecord := fun r : BusReply =>
      withCheck (1 :: (be16n (7 + 2 * r.reads.length)
        ++ ([r.tag, r.board, r.kind, r.result.code, byteOf r.done] ++ be16n r.next.toNat ++ r.reads.flatMap be16)))
    let cell := fun (record : List Byte) (j : Nat) => padTo 32 ((record.drop (32 * j)).take 32)
    (e.source = .anc → a.mode = .stream → exec .cellHandover s = given
      { s with anc := { a with
        readPoint := (a.readPoint + n) % 4096
        fill := a.fill - n
        allowance := a.allowance - n } }
      (padTo 32 ((List.range n).map fun j => Memory.read a.store ((a.readPoint + j) % 4096))) false)
    ∧ (e.source = .anc → a.mode = .repeating → exec .cellHandover s = given
      { s with anc := { a with repeatPos := (a.repeatPos + n) % a.window, allowance := a.allowance - n } }
      (padTo 32 ((List.range n).map fun j => Memory.read a.store ((a.repeatPos + j) % a.window))) false)
    ∧ (e.source = .ret → s.mail.record = none → s.bus.remoteReplies = [] → s.mail.outbox = [] →
        exec .cellHandover s = given s (List.replicate 32 0) false)
    ∧ (∀ b bs, e.source = .ret → s.mail.record = none → s.mail.outbox = b :: bs →
        (s.bus.remoteReplies = [] ∨ s.mail.lastSource = .forwardReply) →
        exec .cellHandover s = given (begins .mail) (cell (mailRecord b) 0) true)
    ∧ (∀ r rs, e.source = .ret → s.mail.record = none → s.bus.remoteReplies = r :: rs →
        (s.mail.outbox = [] ∨ s.mail.lastSource = .mail) →
        exec .cellHandover s = given (begins .forwardReply) (cell (replyRecord r) 0) true)
    ∧ (∀ b bs j, e.source = .ret → s.mail.record = some ⟨.mail, j⟩ → s.mail.outbox = b :: bs →
        exec .cellHandover s = given s (cell (mailRecord b) j) true)
    ∧ (∀ r rs j, e.source = .ret → s.mail.record = some ⟨.forwardReply, j⟩ → s.bus.remoteReplies = r :: rs →
        exec .cellHandover s = given s (cell (replyRecord r) j) true)

/-- R149, R150: a RETURN cell is carried: the record goes on, or, after its last cell, leaves its source, and HOLD is
re-evaluated; after the last cell of the period the frame idle pattern follows (R116). With no RETURN cell in flight nothing
happens (assumption log 3). The length of a reply record is that of assumption log 32. -/
def Obligations.ReturnCellIsCarried : Prop :=
  ∀ s : State, s.resetLow = false →
    let landed := { s with link := { s.link with
      returnInFlight := false
      cell := if s.engine.handed < 2 + s.slotCells.sum then s.link.cell else none } }
    let hold := fun remote : Nat =>
      if 6 ≤ remote ∨ 6 ≤ s.mail.inbox.length then true
      else if remote ≤ 2 ∧ s.mail.inbox.length ≤ 2 then false else s.mail.hold
    (s.link.returnInFlight = false → exec .returnCellCarried s = .next s)
    ∧ (s.link.returnInFlight = true → s.mail.record = none → exec .returnCellCarried s = .next landed)
    ∧ (∀ b bs j, s.link.returnInFlight = true → s.mail.record = some ⟨.mail, j⟩ → s.mail.outbox = b :: bs →
        (32 * (j + 1) < b.length + 5 → exec .returnCellCarried s =
          .next { landed with mail := { s.mail with record := some ⟨.mail, j + 1⟩ } })
        ∧ (b.length + 5 ≤ 32 * (j + 1) → exec .returnCellCarried s =
          .next { landed with mail := { s.mail with
            outbox := bs
            record := none
            hold := hold s.bus.remoteOutstanding } }))
    ∧ (∀ r rs j, s.link.returnInFlight = true → s.mail.record = some ⟨.forwardReply, j⟩ →
        s.bus.remoteReplies = r :: rs →
        (32 * (j + 1) < 2 * r.reads.length + 12 → exec .returnCellCarried s =
          .next { landed with mail := { s.mail with record := some ⟨.forwardReply, j + 1⟩ } })
        ∧ (2 * r.reads.length + 12 ≤ 32 * (j + 1) → exec .returnCellCarried s =
          .next { landed with
            bus := { s.bus with remoteReplies := rs }
            mail := { s.mail with
              record := none
              hold := hold (s.bus.remoteOutstanding - 1) } }))

/-! ### The Triax Link -/

/-- R106, R107, R109, R115, R119, R149: what every good block does; a failed block, which abandons a record in assembly and
loses the link at the sixteenth in a row; and the silence expiry, which loses it too: each with nothing in assembly, with a
record being discarded or whose header is not in, which counts nothing, with a HOST-MAIL record, and with a BOARD-FORWARD
record, whose abandonment is reported (what the report does is the matter of SegmentsBringRecords and BusWrites). That a
SILENCE_EXPIRY at another count than the expiry's does nothing is the model's (assumption log 3). -/
def Obligations.BlocksAndSilence : Prop :=
  ∀ s : State, s.resetLow = false →
    let lost := fun u : State => ({ u with
      link := { u.link with
        state := .silent
        framesRunning := false
        inForce := none
        scheduled := none
        ceiling := u.link.pendingCeiling.getD u.link.ceiling
        pendingCeiling := none
        badRun := 0
        cleanRun := 0
        accepted := none
        answer := .none
        trainingExpiry := none
        failureRun := 0
        silenceExpiry := none
        assembly := .idle
        cell := none
        returnInFlight := false }
      mail := { u.mail with record := u.mail.record.map fun r : ReturnRecord => { r with carried := 0 } } }).setFlag .linkDown
    let counted := (s.countLink fun c => { c with uplinkErrors := bump c.uplinkErrors }).setFlag .uplinkCheck
    let next := fun u : State => { u with link := { u.link with failureRun := u.link.failureRun + 1 } }
    let noAssembly := fun u : State => { u with link := { u.link with assembly := .idle } }
    let abandons := fun dropped : State → State =>
      (s.link.state = .silent → exec .failedBlock s = .next (dropped counted))
      ∧ (s.link.state ≠ .silent → s.link.failureRun < 15 → exec .failedBlock s = .next (next (dropped counted)))
      ∧ (s.link.state ≠ .silent → 15 ≤ s.link.failureRun → exec .failedBlock s = .next (lost (dropped counted)))
      ∧ (s.link.state ≠ .silent → s.link.silenceExpiry = some s.timebase →
          exec .silenceExpiry s = .next (lost (dropped s)))
    (exec .uplinkIdle s = .next s.afterGoodBlock)
    ∧ (s.link.assembly = .idle → abandons fun u => u)
    ∧ (s.link.assembly = .discarding → abandons noAssembly)
    ∧ (∀ r, s.link.assembly = .collecting r → r.header.length ≠ 3 → abandons noAssembly)
    ∧ (∀ r h l, s.link.assembly = .collecting r → r.header = [2, h, l] → abandons fun u =>
        ((noAssembly u).countBus fun c => { c with inboxDropped := bump c.inboxDropped }).setFlag .inboxDropped)
    ∧ (∀ r h l, s.link.assembly = .collecting r → r.header = [1, h, l] → abandons fun u =>
        reportRecordEnd .abandoned (noAssembly u))
    ∧ (s.link.silenceExpiry ≠ some s.timebase → exec .silenceExpiry s = .next s)

/-- R109, R110, R111, R115, R149: OFFER in each link state, START with and without the accepted class, and the training
expiry; a class above 5 is discarded. That a REJECT leaves the training expiry running is the model's reading (assumption
log 18), and that a TRAINING_EXPIRY at another count than the expiry's does nothing is the model's (assumption log 3). -/
def Obligations.Training : Prop :=
  ∀ (k : Byte) (s : State), s.resetLow = false →
    let good := s.afterGoodBlock
    let offered := fun (u : State) (ceiling : Nat) => { u with link := { u.link with
      accepted := some (min k.toNat ceiling)
      answer := .accept (min k.toNat ceiling)
      trainingExpiry := some (s.timebase + 14850000) } }
    (5 < k.toNat → exec (.offer k) s = .next good ∧ exec (.start k) s = .next good)
    ∧ (k.toNat ≤ 5 → s.link.state ≠ .up → exec (.offer k) s = .next (offered good s.link.ceiling))
    ∧ (k.toNat ≤ 5 → s.link.state = .up →
        let ceiling := s.link.pendingCeiling.getD s.link.ceiling
        exec (.offer k) s = .next (offered
          { good with
            link := { good.link with
              state := .training
              framesRunning := false
              inForce := none
              scheduled := none
              ceiling := ceiling
              pendingCeiling := none
              badRun := 0
              cleanRun := 0
              failureRun := 0
              cell := none
              returnInFlight := false }
            mail := { s.mail with record := s.mail.record.map fun r => { r with carried := 0 } } } ceiling))
    ∧ (k.toNat ≤ 5 → s.link.state ≠ .up → s.link.accepted = some k.toNat → exec (.start k) s = .next
        { good with link := { good.link with
          state := .up
          scheduled := some k.toNat
          trainingExpiry := none
          badRun := 0
          cleanRun := 0 } })
    ∧ (k.toNat ≤ 5 → s.link.state ≠ .up → s.link.accepted ≠ some k.toNat → exec (.start k) s = .next
        { good with link := { good.link with answer := .reject, accepted := none } })
    ∧ (s.link.state = .up → exec (.start k) s = .next good)
    ∧ (s.link.trainingExpiry = some s.timebase → exec .trainingExpiry s = .next
        { s with link := { s.link with accepted := none, answer := .none, trainingExpiry := none } })
    ∧ (s.link.trainingExpiry ≠ some s.timebase → exec .trainingExpiry s = .next s)

/-- R113, R114: a health record: the runs, and the decision: a step down at the third bad record in a row, LINK_FLOOR at class
0, a step up at the 64th clean one below the limit. -/
def Obligations.HealthIsJudged : Prop :=
  ∀ (errors : Word) (s : State), s.resetLow = false →
    let g := s.afterGoodBlock
    let e := errors.toNat
    let runs := fun (bad clean : Nat) (scheduled : Option Nat) =>
      { g with link := { g.link with lastE := e, badRun := bad, cleanRun := clean, scheduled := scheduled } }
    let k := s.link
    let base := match k.scheduled with
      | some c => c
      | none => k.inForce.getD 0
    let limit := k.pendingCeiling.getD k.ceiling
    (k.framesRunning = false → exec (.health errors) s = .next { g with link := { g.link with lastE := e } })
    ∧ (k.framesRunning = true → k.threshold < e → k.badRun < 2 →
        exec (.health errors) s = .next (runs (k.badRun + 1) 0 k.scheduled))
    ∧ (k.framesRunning = true → k.threshold < e → 2 ≤ k.badRun → 0 < base →
        exec (.health errors) s = .next (((runs 0 0 (some (base - 1))).countLink fun c =>
          { c with stepsDown := bump c.stepsDown }).setFlag .steppedDown))
    ∧ (k.framesRunning = true → k.threshold < e → 2 ≤ k.badRun → base = 0 →
        exec (.health errors) s = .next ((runs 0 0 k.scheduled).setFlag .linkFloor))
    ∧ (k.framesRunning = true → 0 < e → e ≤ k.threshold → exec (.health errors) s = .next (runs 0 0 k.scheduled))
    ∧ (k.framesRunning = true → e = 0 → k.cleanRun < 63 →
        exec (.health errors) s = .next (runs 0 (k.cleanRun + 1) k.scheduled))
    ∧ (k.framesRunning = true → e = 0 → 63 ≤ k.cleanRun → base < limit →
        exec (.health errors) s = .next ((runs 0 0 (some (base + 1))).countLink fun c =>
          { c with stepsUp := bump c.stepsUp }))
    ∧ (k.framesRunning = true → e = 0 → 63 ≤ k.cleanRun → limit ≤ base →
        exec (.health errors) s = .next (runs 0 64 k.scheduled))

/-- R117, R118, R119, R127, R128, R129, R147, R150: what SEGMENT blocks bring. First, byte by byte: a segment does what its
payload's bytes do one to a segment, the first mark with the first and the last mark with the last; then what one byte does
in each state of the assembly, to the mail or the remote entry it belongs to, and what the two marks do. Then what becomes
of the newest remote entry at its record's end. Last, whole records that fill no more than one block, from an IDLE assembly.
That a record dropped to DISCARDING within the segment of its last mark ends with it is the model's reading (assumption log
9); so is that arbitration follows each byte (assumption log 14), and that the first 8 bytes handed on fill the transaction
head where a body of 6 or 7 bytes leaves the last of them to the check bytes (assumption log 24). -/
def Obligations.SegmentsBringRecords : Prop :=
  (∀ (s : State) (b : Byte) (rest : List Byte), s.resetLow = false →
    let g := s.afterGoodBlock
    let one := fun marks : Byte => exec (.segment marks 1 (b :: rest)) s
    let holdOf := fun (u : State) =>
      if 6 ≤ u.bus.remoteOutstanding ∨ 6 ≤ u.mail.inbox.length then true
      else if u.bus.remoteOutstanding ≤ 2 ∧ u.mail.inbox.length ≤ 2 then false else u.mail.hold
    let held := fun u : State => { u with mail := { u.mail with hold := holdOf u } }
    let assembled := fun (u : State) (a : Assembly) => { u with link := { u.link with assembly := a } }
    let droppedMail := fun u : State =>
      (u.countBus fun c => { c with inboxDropped := bump c.inboxDropped }).setFlag .inboxDropped
    let begun : Assembly := .collecting ⟨[b], 1, [], checkByte checkInit b, 0⟩
    (∀ (marks len : Byte) (payload : List Byte), (len = 0 ∨ 24 < len.toNat) → exec (.segment marks len payload) s = .next g)
    ∧ (∀ (marks : Byte) (n : Nat) (payload : List Byte), 1 ≤ n → n ≤ 24 → n ≤ payload.length →
        exec (.segment marks (byteOf n) payload) s = runCommands ((List.range n).map fun i =>
          .segment ((if i = 0 then marks &&& 0x80 else 0) ||| (if i + 1 = n then marks &&& 0x40 else 0)) 1
            (payload.drop i)) s)
    ∧ (∀ (first : Byte) (t : State), (first = 0 ∨ first = 0x80) → one first = .next t →
        (t.link.assembly = .idle → one (first ||| 0x40) = .next t)
        ∧ (t.link.assembly = .discarding → one (first ||| 0x40) = .next (assembled t .idle))
        ∧ (∀ r, t.link.assembly = .collecting r → r.header.length ≠ 3 → one (first ||| 0x40) = .next (assembled t .idle))
        ∧ (∀ r h l, t.link.assembly = .collecting r → r.header = [2, h, l] →
            one (first ||| 0x40) = .next (droppedMail (assembled t .idle)))
        ∧ (∀ r h l, t.link.assembly = .collecting r → r.header = [1, h, l] →
            one (first ||| 0x40) = .next (reportRecordEnd .failed (assembled t .idle))))
    ∧ ((s.link.assembly = .idle ∨ s.link.assembly = .discarding) → one 0x80 = .next (assembled g begun))
    ∧ (∀ r, s.link.assembly = .collecting r → r.header.length ≠ 3 → one 0x80 = .next (assembled g begun))
    ∧ (∀ r h l, s.link.assembly = .collecting r → r.header = [2, h, l] →
        one 0x80 = .next (assembled (droppedMail g) begun))
    ∧ (∀ r h l, s.link.assembly = .collecting r → r.header = [1, h, l] →
        one 0x80 = .next (assembled (reportRecordEnd .abandoned (assembled g .idle)) begun))
    ∧ ((s.link.assembly = .idle ∨ s.link.assembly = .discarding) → one 0 = .next g)
    ∧ (∀ r, s.link.assembly = .collecting r → r.count < 2 → one 0 = .next (assembled g (.collecting
        { r with count := r.count + 1, header := r.header ++ [b], running := checkByte r.running b })))
    ∧ (∀ r d h, s.link.assembly = .collecting r → r.count = 2 → r.header = [d, h] →
        let n := 256 * h.toNat + b.toNat
        let whole : RecordIn := { r with count := 3, header := [d, h, b], running := checkByte r.running b }
        (d = 1 → s.bus.remoteOutstanding < 8 → one 0 = .next (assembled (held { g with bus := { s.bus with
          remoteQueue := s.bus.remoteQueue
            ++ [⟨n, [], ⟨.remote, 0, 0, 0, 0, 0, 0, 0, []⟩, none, .receiving, true⟩] } }) (.collecting whole)))
        ∧ (d = 1 → 8 ≤ s.bus.remoteOutstanding → one 0 = .next (assembled
          ((g.countBus fun c => { c with remoteDropped := bump c.remoteDropped }).setFlag .remoteDropped) .discarding))
        ∧ (d = 2 → n ≤ 64 → one 0 = .next (assembled g (.collecting whole)))
        ∧ (d = 2 → 64 < n → one 0 = .next (assembled (droppedMail g) .discarding))
        ∧ (d ≠ 1 → d ≠ 2 → one 0 = .next (assembled g .discarding)))
    ∧ (∀ r d h l, s.link.assembly = .collecting r → r.header = [d, h, l] → (d = 1 ∨ d = 2) →
        let n := 256 * h.toNat + l.toNat
        let check := (r.check <<< 8) ||| b.zeroExtend 16
        let inBody : RecordIn := { r with count := r.count + 1, running := checkByte r.running b }
        let collected : Assembly :=
          .collecting (if r.count < 3 + n then inBody else { r with count := r.count + 1, check := check })
        let told := fun u : State =>
          if r.count = 4 + n then
            reportRecordEnd (if r.running = check then .passed else .failed) (assembled u .idle)
          else u
        (d = 1 → 3 ≤ r.count → r.count ≤ 4 + n → (∀ es e, s.bus.remoteQueue = es ++ [e] → e.arriving = false) →
          (3 + n ≤ r.count ∨ ∀ t, s.bus.txn = some t → t.record ≠ .arriving) →
          one 0 = .next (told (assembled g collected)))
        ∧ (d = 1 → 3 ≤ r.count → r.count ≤ 4 + n → ∀ es e, s.bus.remoteQueue = es ++ [e] → e.arriving = true →
          let fed := fun e' : RemoteEntry => one 0 = .next (told (settleBus (assembled
            { g with bus := { s.bus with remoteQueue := es ++ [e'] } } collected)))
          (e.state = .receiving → e.head.length < 7 → fed { e with head := e.head ++ [b] })
          ∧ (∀ tag board kind rule level sh sl, e.state = .receiving →
              e.head = [tag, board, kind, rule, level, sh, sl] →
              let start := 256 * sh.toNat + sl.toNat
              let ok := kind.toNat ≤ 1 ∧ (board.toNat ≤ 3 ∨ board = 7) ∧ 1 ≤ b.toNat ∧ b.toNat ≤ 32
                ∧ start + b.toNat ≤ 4096 ∧ ¬(kind = 1 ∧ board = 7) ∧ (kind = 0 → rule.toNat ≤ 1)
                ∧ e.bodyLen = (if kind = 0 then 8 + 2 * b.toNat else 8)
                ∧ (kind = 0 → rule = 1 → 1 ≤ level.toNat ∧ level.toNat ≤ 32)
              fed { e with
                head := [tag, board, kind, rule, level, sh, sl, b]
                txn := ⟨.remote, tag, board, kind, rule, level, sh ++ sl, b, []⟩
                state := if ok then .receiving else .void })
          ∧ (e.state = .receiving → e.head.length = 8 → r.count < 3 + n → e.txn.kind = 0 →
              e.txn.words.length < e.txn.count.toNat →
              (e.half = none → fed { e with half := some b })
              ∧ (∀ high, e.half = some high →
                fed { e with txn := { e.txn with words := e.txn.words ++ [high ++ b] }, half := none }))
          ∧ (e.state = .receiving → e.head.length = 8 →
              (3 + n ≤ r.count ∨ e.txn.kind ≠ 0 ∨ e.txn.count.toNat ≤ e.txn.words.length) → fed e)
          ∧ (e.state = .void → fed e))
        ∧ (d = 2 → 3 ≤ r.count → r.count < 3 + n →
          one 0 = .next (assembled g (.collecting { inBody with mail := r.mail ++ [b] })))
        ∧ (d = 2 → r.count = 3 + n → one 0 = .next (assembled g (.collecting { r with count := r.count + 1, check := check })))
        ∧ (d = 2 → r.count = 4 + n → r.running = check → s.mail.inbox.length < 8 → one 0 = .next (assembled
            (held { g with mail := { s.mail with inbox := s.mail.inbox ++ [r.mail] } }) .idle))
        ∧ (d = 2 → r.count = 4 + n → (r.running ≠ check ∨ 8 ≤ s.mail.inbox.length) →
            one 0 = .next (assembled (droppedMail g) .idle)))
    ∧ (∀ es e ending, s.bus.pendingReply = none → s.bus.remoteQueue = es ++ [e] → e.arriving = true →
        let queue := fun q : List RemoteEntry => { s with bus := { s.bus with remoteQueue := q } }
        (e.state = .receiving → e.head.length < 8 →
          reportRecordEnd ending s = settleBus (held ((queue es).setFlag .remoteCheck)))
        ∧ (e.state = .receiving → e.head.length = 8 → reportRecordEnd ending s = settleBus (queue (es ++
            [{ e with state := if ending = .passed then .ended else .void, arriving := false }])))
        ∧ (e.state = .void → reportRecordEnd ending s = settleBus (queue (es ++ [{ e with arriving := false }])))))
  ∧ (∀ (marks : Byte) (payload : List Byte) (s : State), s.resetLow = false → payload.length = 24 →
    s.link.assembly = .idle →
    let g := s.afterGoodBlock
    let hold := fun (remote inbox : Nat) =>
      if 6 ≤ remote ∨ 6 ≤ inbox then true else if remote ≤ 2 ∧ inbox ≤ 2 then false else s.mail.hold
    let droppedMail := (g.countBus fun c => { c with inboxDropped := bump c.inboxDropped }).setFlag .inboxDropped
    (∀ len : Byte, marks.getLsbD 7 = false → exec (.segment marks len payload) s = .next g)
    ∧ (∀ (len : Byte) (d : Byte), marks.getLsbD 7 = true → marks.getLsbD 6 = true → 3 ≤ len.toNat → len.toNat ≤ 24 →
        payload.head? = some d → d ≠ 1 → d ≠ 2 → exec (.segment marks len payload) s = .next g)
    ∧ (∀ (body tail : List Byte) (check : Word), marks.getLsbD 7 = true → marks.getLsbD 6 = true →
        payload = (0x02 :: (be16n body.length ++ body)) ++ be16 check ++ tail →
        let good := check = checkOf (0x02 :: (be16n body.length ++ body))
        (good → s.mail.inbox.length < 8 → exec (.segment marks (byteOf (body.length + 5)) payload) s = .next
          { g with mail := { s.mail with
            inbox := s.mail.inbox ++ [body]
            hold := hold s.bus.remoteOutstanding (s.mail.inbox.length + 1) } })
        ∧ (¬(good ∧ s.mail.inbox.length < 8) →
          exec (.segment marks (byteOf (body.length + 5)) payload) s = .next droppedMail))
    ∧ (∀ (tag board kind rule level count : Byte) (start : Word) (tail : List Byte),
        let head : List Byte := [tag, board, kind, rule, level] ++ be16 start ++ [count]
        let txn : Txn := ⟨.remote, tag, board, kind, rule, level, start, count, []⟩
        marks.getLsbD 7 = true → marks.getLsbD 6 = true →
        payload = withCheck ([0x01, 0x00, 0x08] ++ head) ++ tail → kind = 1 → txn.wellFormed = true →
        s.bus.txn.isSome → s.bus.remoteQueue = [] → s.bus.pendingReply = none →
        (s.bus.remoteOutstanding < 8 → exec (.segment marks 13 payload) s = .next
          { g with
            bus := { s.bus with remoteQueue := [⟨8, head, txn, none, .ended, false⟩] }
            mail := { s.mail with hold := hold (s.bus.remoteOutstanding + 1) s.mail.inbox.length } })
        ∧ (8 ≤ s.bus.remoteOutstanding → exec (.segment marks 13 payload) s = .next
          ((g.countBus fun c => { c with remoteDropped := bump c.remoteDropped }).setFlag .remoteDropped)))
    ∧ (∀ (tag board kind rule level sh sl count : Byte) (body tail : List Byte), (body.length = 6 ∨ body.length = 7) →
        let record := withCheck ([0x01, 0x00, byteOf body.length] ++ body)
        marks.getLsbD 7 = true → marks.getLsbD 6 = true → payload = record ++ tail →
        (record.drop 3).take 8 = [tag, board, kind, rule, level, sh, sl, count] →
        s.bus.txn.isSome → s.bus.remoteQueue = [] → s.bus.pendingReply = none → s.bus.remoteOutstanding < 8 →
        let answered := { g with
          bus := { s.bus with remoteReplies := s.bus.remoteReplies
            ++ [(⟨.remote, tag, board, kind, .check, 0, sh ++ sl, []⟩ : BusReply)] }
          mail := { s.mail with hold := hold (s.bus.remoteOutstanding + 1) s.mail.inbox.length } }
        exec (.segment marks (byteOf (body.length + 5)) payload) s = .next (answered.setFlag .remoteCheck)))

/-- R106, section 10.7: the row of every good uplink block is the one whose fields the block carries, a good block of a kind
code that is not 0x01 to 0x06 is handled as an UPLINK_IDLE, and a block whose check fails is a FAILED_BLOCK. -/
def Obligations.UplinkBlocksAreRows : Prop :=
  (∀ (i : Instr) (fields : List Byte), i.wellFormed = true → uplinkFields i = some fields →
    (withCheck fields).length = 32 ∧ uplinkRow (withCheck fields) = i)
  ∧ (∀ (k : Byte) (rest : List Byte), rest.length = 31 → (k :: rest).drop 30 = be16 (checkOf ((k :: rest).take 30)) →
      (k = 0 ∨ 6 < k.toNat) → uplinkRow (k :: rest) = .uplinkIdle)
  ∧ (∀ block : List Byte, block.drop 30 ≠ be16 (checkOf (block.take 30)) → uplinkRow block = .failedBlock)

/-! ### The Board Bus Controller -/

/-- R124, R128, R134, R135, R137, R138: a WRITE on the bus from its SELECT to its end, whatever waits behind it: words,
acknowledgement, refusal, timeout, starvation, the broadcast, and where its reply goes by its record; after its end what is
due at the bus happens (GrantsAndGate). Then the record of an AT-LEVEL WRITE that is still arriving: its bytes reach the
transaction, a word that was awaited is sent at once, and its end decides the reply, before the bus end or after it. That
WORD_SENT ends SELECT and an answer before that is discarded is the model's choice (assumption log 31), and so is that an
ANSWER_TIMEOUT at another count than its expiry's, and a WORD_SENT with no word being sent, do nothing (assumption log 3). -/
def Obligations.BusWrites : Prop :=
  (∀ (t : BusTxn) (s : State), s.resetLow = false → s.bus.txn = some t → t.txn.kind = 0 → t.reads = [] →
    let expiry := some (s.timebase + BitVec.ofNat 32 (s.bus.answerTimeout * 297 / 2))
    let on := fun (u : BusTxn) (out : List BusDrive) =>
      (Host.Outcome.next { s with bus := { s.bus with txn := some u, out := out } } : Host.Outcome State Fault Refusal)
    let reply := fun (result : BusResult) (done : Nat) =>
      (⟨t.txn.origin, t.txn.tag, t.txn.board, t.txn.kind, result, done, t.txn.start + BitVec.ofNat 16 done, []⟩ : BusReply)
    let free := { s with bus := { s.bus with txn := none } }
    let placed := fun (u : State) (r : BusReply) => match t.txn.origin with
      | .toLocal => { u with bus := { u.bus with localReplies := u.bus.localReplies ++ [r] } }
      | .remote => { u with bus := { u.bus with remoteReplies := u.bus.remoteReplies ++ [r] } }
    let ended := fun (u : State) (result : BusResult) (done : Nat) =>
      (Host.Outcome.next (settleBus (match t.record with
        | .passed => placed u (reply result done)
        | .failed => placed (u.setFlag .remoteCheck) (reply .lateCheck done)
        | .arriving => { u with bus := { u.bus with pendingReply := some (reply result done) } })) :
        Host.Outcome State Fault Refusal)
    let late := (free.countBus fun c => { c with timeouts := bump c.timeouts }).setFlag .busTimeout
    let starved := settleBus (placed { late with bus := { late.bus with out := [] } } (reply .underrun t.sent))
    (∀ w, t.phase = .select → t.txn.words[t.sent]? = some w →
      exec .wordSent s = on { t with phase := .sendingWord, expiry := none } [.word w])
    ∧ (t.phase = .select → t.txn.words[t.sent]? = none →
      exec .wordSent s = on { t with phase := .awaitingWord, expiry := expiry } s.bus.out)
    ∧ (∀ w, t.phase = .sendingWord → t.sent + 1 < t.txn.count.toNat → t.txn.words[t.sent + 1]? = some w →
      exec .wordSent s = on { t with sent := t.sent + 1, phase := .sendingWord, expiry := none } [.word w])
    ∧ (t.phase = .sendingWord → t.sent + 1 < t.txn.count.toNat → t.txn.words[t.sent + 1]? = none →
      exec .wordSent s = on { t with sent := t.sent + 1, phase := .awaitingWord, expiry := expiry } s.bus.out)
    ∧ (t.phase = .sendingWord → t.txn.count.toNat ≤ t.sent + 1 → t.txn.board ≠ 7 →
      exec .wordSent s = on { t with sent := t.sent + 1, phase := .answer, expiry := expiry } s.bus.out)
    ∧ (t.phase = .sendingWord → t.txn.count.toNat ≤ t.sent + 1 → t.txn.board = 7 →
      exec .wordSent s = ended free .ok (t.sent + 1))
    ∧ (t.phase = .awaitingWord ∨ t.phase = .answer → exec .wordSent s = .next s)
    ∧ (t.phase = .answer → exec (.boardAnswer .ack) s = ended free .ok t.sent)
    ∧ (t.phase = .answer → exec (.boardAnswer .nak) s =
        ended ((free.countBus fun c => { c with naks := bump c.naks }).setFlag .busNak) .nak 0)
    ∧ (t.phase = .answer → t.expiry = some s.timebase → exec .answerTimeout s = ended late .timeout t.sent)
    ∧ (t.phase = .awaitingWord → t.expiry = some s.timebase →
        exec .answerTimeout s = .next { starved with bus := { starved.bus with out := .abort :: starved.bus.out } })
    ∧ (t.expiry ≠ some s.timebase → exec .answerTimeout s = .next s)
    ∧ (∀ a, t.phase ≠ .answer → exec (.boardAnswer a) s = .next s)
    ∧ (∀ w, exec (.readWord w) s = .next s)
    ∧ ((∀ es e, s.bus.remoteQueue = es ++ [e] → e.arriving = false) → t.record = .arriving →
        (∀ (r : RecordIn) (h l b : Byte) (rest : List Byte), s.link.assembly = .collecting r → r.header = [1, h, l] →
          3 ≤ r.count → r.count < 3 + (256 * h.toNat + l.toNat) →
          (t.phase = .awaitingWord → t.txn.words.length = t.sent) →
          let g := s.afterGoodBlock
          let r1 : RecordIn := { r with count := r.count + 1, running := checkByte r.running b }
          let fed := fun (u : BusTxn) (out : List BusDrive) => (Host.Outcome.next { g with
            link := { g.link with assembly := .collecting r1 }
            bus := { s.bus with txn := some u, out := out } } : Host.Outcome State Fault Refusal)
          (t.txn.count.toNat ≤ t.txn.words.length → exec (.segment 0 1 (b :: rest)) s = fed t s.bus.out)
          ∧ (t.txn.words.length < t.txn.count.toNat → t.half = none →
            exec (.segment 0 1 (b :: rest)) s = fed { t with half := some b } s.bus.out)
          ∧ (∀ high, t.txn.words.length < t.txn.count.toNat → t.half = some high →
            let u := { t with txn := { t.txn with words := t.txn.words ++ [high ++ b] }, half := none }
            (t.phase ≠ .awaitingWord → exec (.segment 0 1 (b :: rest)) s = fed u s.bus.out)
            ∧ (t.phase = .awaitingWord → exec (.segment 0 1 (b :: rest)) s =
              fed { u with phase := .sendingWord, expiry := none } [.word (high ++ b)])))
        ∧ (∀ ending, s.bus.pendingReply = none →
          let u := { t with record := if ending = .passed then .passed else .failed }
          reportRecordEnd ending s = { s with bus := { s.bus with txn := some u } })))
  ∧ (∀ (ending : RecordEnd) (r : BusReply) (s : State), s.bus.pendingReply = some r → r.origin = .remote →
    let left := { s with bus := { s.bus with pendingReply := none } }
    (ending = .passed → reportRecordEnd ending s =
      { left with bus := { left.bus with remoteReplies := s.bus.remoteReplies ++ [r] } })
    ∧ (ending ≠ .passed → reportRecordEnd ending s =
      { left with bus := { left.bus with remoteReplies := s.bus.remoteReplies
        ++ [{ r with result := .lateCheck }] } }.setFlag .remoteCheck))
  ∧ (∀ (ending : RecordEnd) (s : State), s.bus.pendingReply = none →
    (∀ es e, s.bus.remoteQueue = es ++ [e] → e.arriving = false) → (∀ t, s.bus.txn = some t → t.record ≠ .arriving) →
    reportRecordEnd ending s = s)

/-- R124, R134, R136: a READ on the bus from its SELECT to its end, whatever waits behind it; after its end what is due at the
bus happens (GrantsAndGate); and with the bus IDLE, nothing (assumption log 3). That WORD_SENT ends SELECT and an answer
before that is discarded is the model's choice (assumption log 31). -/
def Obligations.BusReads : Prop :=
  (∀ (t : BusTxn) (s : State), s.resetLow = false → s.bus.txn = some t → t.txn.kind = 1 → t.record = .passed →
    let expiry := some (s.timebase + BitVec.ofNat 32 (s.bus.answerTimeout * 297 / 2))
    let on := fun u : BusTxn =>
      (Host.Outcome.next { s with bus := { s.bus with txn := some u } } : Host.Outcome State Fault Refusal)
    let free := { s with bus := { s.bus with txn := none } }
    let replied := fun (u : State) (result : BusResult) (done : Nat) (reads : List Word) =>
      let r : BusReply :=
        ⟨t.txn.origin, t.txn.tag, t.txn.board, t.txn.kind, result, done, t.txn.start + BitVec.ofNat 16 done, reads⟩
      (Host.Outcome.next (settleBus (match t.txn.origin with
        | .toLocal => { u with bus := { u.bus with localReplies := u.bus.localReplies ++ [r] } }
        | .remote => { u with bus := { u.bus with remoteReplies := u.bus.remoteReplies ++ [r] } })) :
        Host.Outcome State Fault Refusal)
    (t.phase = .select → exec .wordSent s = on { t with phase := .answer, expiry := expiry })
    ∧ (∀ a w, t.phase = .select → exec (.boardAnswer a) s = .next s ∧ exec (.readWord w) s = .next s)
    ∧ (t.phase = .answer → exec .wordSent s = .next s)
    ∧ (t.phase = .answer → t.acked = false → exec (.boardAnswer .ack) s = on { t with acked := true, expiry := expiry })
    ∧ (t.phase = .answer → t.acked = false → exec (.boardAnswer .nak) s =
        replied ((free.countBus fun c => { c with naks := bump c.naks }).setFlag .busNak) .nak 0 t.reads)
    ∧ (∀ w, t.phase = .answer → t.acked = false → exec (.readWord w) s = .next s)
    ∧ (∀ a, t.phase = .answer → t.acked = true → exec (.boardAnswer a) s = .next s)
    ∧ (∀ w, t.phase = .answer → t.acked = true → t.reads.length + 1 < t.txn.count.toNat →
        exec (.readWord w) s = on { t with reads := t.reads ++ [w], expiry := expiry })
    ∧ (∀ w, t.phase = .answer → t.acked = true → t.txn.count.toNat ≤ t.reads.length + 1 →
        exec (.readWord w) s = replied free .ok (t.reads.length + 1) (t.reads ++ [w]))
    ∧ (t.phase = .answer → t.expiry = some s.timebase → exec .answerTimeout s =
        replied ((free.countBus fun c => { c with timeouts := bump c.timeouts }).setFlag .busTimeout) .timeout
          t.reads.length t.reads)
    ∧ (t.expiry ≠ some s.timebase → exec .answerTimeout s = .next s))
  ∧ (∀ (a : BoardAnswer) (w : Word) (s : State), s.resetLow = false → s.bus.txn = none →
    exec .wordSent s = .next s ∧ exec (.boardAnswer a) s = .next s ∧ exec (.readWord w) s = .next s
      ∧ exec .answerTimeout s = .next s)

/-- R129 to R134, R141, R150: what is due at the bus, one act at a time, whatever else waits: nothing; the grant of the local
head; the grant of the remote head, by turns with it, ENDED or an AT-LEVEL write at its level, with the gate before a write;
and the retiring of a VOID head, before any grant. Each act is followed by what is due after it. -/
def Obligations.GrantsAndGate : Prop :=
  ∀ s : State,
    let released := fun (u : State) (t : Txn) (half : Option Byte) (record : RecordStatus) =>
      ({ u with bus := { u.bus with
        txn := some ⟨t, .select, 0, false, [], half, record, none⟩
        out := [.select t.board t.kind t.start t.count] } }).countBus fun c =>
        { c with transactions := bump c.transactions }
    let idle := s.bus.txn = none ∧ s.bus.grantingStopped = false
    let noVoid := ∀ e es, s.bus.remoteQueue = e :: es → ¬(e.state = .void ∧ e.arriving = false)
    let ready := fun e : RemoteEntry => e.state = .ended ∨ (e.state = .receiving ∧ e.head.length = 8 ∧ e.txn.kind = 0
      ∧ e.txn.rule = 1 ∧ e.txn.level.toNat ≤ e.txn.words.length)
    let remoteWaits := s.hasFlag .powerOn = true ∨ ∀ e es, s.bus.remoteQueue = e :: es → ¬ready e
    (noVoid → (¬idle ∨ s.bus.localQueue = [] ∧ remoteWaits) → settleBus s = s)
    ∧ (∀ t ts, noVoid → idle → s.bus.localQueue = t :: ts → (remoteWaits ∨ s.bus.lastServed = .remote) →
        settleBus s =
          settleBus (released { s with bus := { s.bus with localQueue := ts, lastServed := .toLocal } } t none .passed))
    ∧ (∀ e es, idle → s.bus.remoteQueue = e :: es → ready e → s.hasFlag .powerOn = false →
        (s.bus.localQueue = [] ∨ s.bus.lastServed = .toLocal) →
        let taken := { s with bus := { s.bus with remoteQueue := es, lastServed := .remote } }
        let record := if e.arriving then RecordStatus.arriving else .passed
        let opened := s.bus.gate = .opened ∨ s.bus.gate = .single ∧ s.bus.permit = true
        (e.txn.kind = 1 → settleBus s = settleBus (released taken e.txn e.half record))
        ∧ (e.txn.kind = 0 → opened → settleBus s =
          settleBus (released { taken with bus := { taken.bus with permit := false } } e.txn e.half record))
        ∧ (e.txn.kind = 0 → ¬opened → e.txn.origin = .remote → settleBus s =
          settleBus ({ taken with bus := { taken.bus with
            remoteReplies := s.bus.remoteReplies
              ++ [(⟨.remote, e.txn.tag, e.txn.board, e.txn.kind, .gated, 0, e.txn.start, []⟩ : BusReply)] } }.setFlag
            .gateRefused)))
    ∧ (∀ e es, s.bus.remoteQueue = e :: es → e.state = .void → e.arriving = false → e.txn.origin = .remote →
        settleBus s = settleBus ({ s with
          bus := { s.bus with
            remoteQueue := es
            remoteReplies := s.bus.remoteReplies
              ++ [(⟨.remote, e.txn.tag, e.txn.board, e.txn.kind, .check, 0, e.txn.start, []⟩ : BusReply)] }
          mail := { s.mail with hold :=
            if 6 ≤ s.bus.remoteOutstanding ∨ 6 ≤ s.mail.inbox.length then true
            else if s.bus.remoteOutstanding ≤ 2 ∧ s.mail.inbox.length ≤ 2 then false else s.mail.hold } }.setFlag
          .remoteCheck))

/-! ### The Management Port -/

/-- R152, R154, R155, R157, section 10.7: every well-formed request is read back from its record, and its bytes, sent one by
one on MRX to a hunting receiver, do what the request's row does. That a request's row stands for the completion of its
record, and not for its bytes, is the model's (assumption logs 11 and 33). -/
def Obligations.RequestRecordsAreRows : Prop :=
  ∀ q : Request, q.wellFormed = true →
    parseRecord q.record = .ok q ∧ q.command.request? = some q
    ∧ ∀ s : State, s.resetLow = false → s.mgmt.rx = .hunting → s.mgmt.gapExpiry = none →
        runCommands ((requestBytes q.record).map .mgmtByte) s = exec q.command s

/-- R141, R154, R155, R159: a record that completes while a reply is in progress is held, or discarded with MGMT_OVERRUN; the
end of a reply, which of a RESTART is the reset first, dispatches the held record: a request, a record that failed its check,
one of an unknown kind, or one of a length its kind does not allow; RESTART stops the granting. That the row REPLY_END ends
a reply however many of its bytes are out is the model's (assumption log 16), and so is that it does nothing with no reply in
progress (assumption log 3); a request row leaves the receiver as it is (assumption log 33). -/
def Obligations.RepliesHoldAndReset : Prop :=
  ∀ s : State, s.resetLow = false →
    (∀ q r, s.mgmt.reply = some r → s.mgmt.holding = none →
      exec (Request.command q) s = .next { s with mgmt := { s.mgmt with holding := some q.record } })
    ∧ (∀ q r h, s.mgmt.reply = some r → s.mgmt.holding = some h →
      exec (Request.command q) s = .next (s.setFlag .mgmtOverrun))
    ∧ (s.mgmt.reply = none → exec .replyEnd s = .next s)
    ∧ (∀ bytes sent progress thenReset, s.mgmt.reply = some ⟨bytes, sent, progress, thenReset⟩ →
      let fresh := fun p : PortId =>
        { Port.reset p with
          lane := if (s.port p).lane.signal then { Lane.reset with signal := true, state := .acquiring } else Lane.reset
          store := { Store.reset with pool := (s.port p).store.pool } }
      let after :=
        if thenReset then
          { State.reset with
            ports := ⟨fresh .p0, fresh .p1, fresh .p2, fresh .p3⟩
            mgmt := { MgmtPort.reset with rate := s.mgmt.rate }
            pending := s.pending }
        else { s with mgmt := { s.mgmt with reply := none, holding := none } }
      (s.mgmt.holding = none → exec .replyEnd s = .next after)
      ∧ (∀ q, s.mgmt.holding = some (Request.record q) → exec .replyEnd s = exec q.command after)
      ∧ (∀ kind body, s.mgmt.holding = some ⟨kind, body, false⟩ →
          exec .replyEnd s = .next (after.answered kind .check []))
      ∧ (∀ kind body, s.mgmt.holding = some ⟨kind, body, true⟩ → BitVec.toNat kind ∉ catalogueKinds →
          exec .replyEnd s = .next (after.answered kind .unknown []))
      ∧ (∀ kind body, s.mgmt.holding = some ⟨kind, body, true⟩ → BitVec.toNat kind ∈ catalogueKinds →
          lengthFits kind body = false → exec .replyEnd s = .next (after.answered kind .length [])))
    ∧ (s.Listens → s.bus.txn.isSome →
      exec .restart s = .next ((s.setFlag .restartRefused).answered 0x06 .busy []))
    ∧ (s.Listens → s.bus.txn = none →
      let u := { s with bus := { s.bus with grantingStopped := true } }
      exec .restart s = .next { u with mgmt := { u.mgmt with reply := some ⟨replyBytes 0x06 .done u.summary [], 0, 0, true⟩ } })

/-- R152, R153, R154, R155, section 10.4: the receiver byte by byte: hunting, collecting each byte that does not complete the
record, a body length that is too great, and the byte that does: with a reply in progress the record is held, or discarded with
MGMT_OVERRUN; else it is dispatched, and answered CHECK, UNKNOWN or LENGTH, or it is a request's record and does what the
request's row does. Then the gap expiry, and the row of a kind not in the catalogue. That a GAP_EXPIRY at another count than
the expiry's does nothing is the model's (assumption log 3). -/
def Obligations.ReceiverCollects : Prop :=
  ∀ s : State, s.resetLow = false →
    let rxTo := fun (rx : Receiver) (gap : Option Time) => { s with mgmt := { s.mgmt with rx := rx, gapExpiry := gap } }
    let gap := some (s.timebase + 297000)
    (∀ b, s.mgmt.rx = .hunting → b ≠ 0xC3 → exec (.mgmtByte b) s = .next s)
    ∧ (s.mgmt.rx = .hunting → exec (.mgmtByte 0xC3) s = .next (rxTo (.receiving [0xC3]) gap))
    ∧ (∀ bytes b, s.mgmt.rx = .receiving bytes → bytes.length < 3 →
      exec (.mgmtByte b) s = .next (rxTo (.receiving (bytes ++ [b])) gap))
    ∧ (∀ lead kind h l, s.mgmt.rx = .receiving [lead, kind, h] → 512 < 256 * h.toNat + l.toNat →
      exec (.mgmtByte l) s = .next ((rxTo .hunting none).setFlag .mgmtFraming))
    ∧ (∀ lead kind h l, s.mgmt.rx = .receiving [lead, kind, h] → 256 * h.toNat + l.toNat ≤ 512 →
      exec (.mgmtByte l) s = .next (rxTo (.receiving [lead, kind, h, l]) gap))
    ∧ (∀ lead kind h l rest b, s.mgmt.rx = .receiving (lead :: kind :: h :: l :: rest) →
      256 * BitVec.toNat h + BitVec.toNat l ≤ 512 → rest.length + 1 < 256 * BitVec.toNat h + BitVec.toNat l + 2 →
      exec (.mgmtByte b) s = .next (rxTo (.receiving (lead :: kind :: h :: l :: (rest ++ [b]))) gap))
    ∧ (∀ kind (body : List Byte) ch cl, body.length ≤ 512 →
      s.mgmt.rx = .receiving ([0xC3, kind] ++ be16n body.length ++ body ++ [ch]) →
      let done := rxTo .hunting none
      let good := [ch, cl] = be16 (checkOf ([0xC3, kind] ++ be16n body.length ++ body))
      (s.mgmt.reply.isSome → s.mgmt.holding = none → exec (.mgmtByte cl) s =
        .next { done with mgmt := { done.mgmt with holding := some ⟨kind, body, decide good⟩ } })
      ∧ (s.mgmt.reply.isSome → s.mgmt.holding.isSome → exec (.mgmtByte cl) s = .next (done.setFlag .mgmtOverrun))
      ∧ (s.mgmt.reply = none → s.mgmt.holding = none →
        (¬good → exec (.mgmtByte cl) s = .next (done.answered kind .check []))
        ∧ (good → kind.toNat ∉ catalogueKinds → exec (.mgmtByte cl) s = .next (done.answered kind .unknown []))
        ∧ (good → kind.toNat ∈ catalogueKinds → lengthFits kind body = false →
          exec (.mgmtByte cl) s = .next (done.answered kind .length []))
        ∧ (good → kind.toNat ∈ catalogueKinds → lengthFits kind body = true →
          ∃ q : Request, q.wellFormed = true ∧ q.record = ⟨kind, body, true⟩ ∧ exec (.mgmtByte cl) s = exec q.command done)))
    ∧ (s.mgmt.gapExpiry = some s.timebase → exec .gapExpiry s = .next ((rxTo .hunting none).setFlag .mgmtFraming))
    ∧ (s.mgmt.gapExpiry ≠ some s.timebase → exec .gapExpiry s = .next s)
    ∧ (∀ kind body, catalogueKinds.contains (BitVec.toNat kind) = false → s.Listens →
      exec (.unknownKind kind body) s = .next (s.answered kind .unknown []))

/-! ### Requests of the Management Port and the Flag Unit -/

/-- R158: IDENTIFY changes no state but the reply; its body is part code, revision code and the unique number, whose value
nothing is known of (assumption log 1). -/
def Obligations.Identify : Prop :=
  ∀ s : State, s.Listens →
    exec .identify s = .next (s.answered 0x01 .done ([0x04, 0x18, 0x01] ++ be64 Config.uniqueNumber))

/-- R160, R161, R162, section 10.7: the flags' numbers; ATTN, in every state: active exactly when RESETN is high and a flag
that is set, or a condition that holds, has its mask mark clear; and each bit of the status summary. Then R130, R131, R163,
R164, R166: READ-STATUS, SET-ATTN-MASK, CLEAR-FLAGS, after which what is due at the bus happens (GrantsAndGate: a remote head
waits while POWER_ON is set), and READ-COUNTERS for a port, the link and the bus. That the reply to a CLEAR-FLAGS has its
status summary composed after that arbitration is the model's reading (assumption log 15). -/
def Obligations.FlagUnitRequests : Prop :=
  ([Flag.powerOn, .restartRefused, .mgmtFraming, .mgmtOverrun].map Flag.number = [0, 1, 2, 3]
    ∧ (∀ p : PortId, ([PortFlag.laneDown, .stray, .callWithheld, .concealed, .damaged, .trimLimit, .drifting].map fun f =>
        Flag.number (.port p f)) = (List.range 7).map (4 + 7 * p.toNat + ·))
    ∧ [Flag.markerLost, .realigned, .gridMismatch, .shedding, .cut, .commitDone, .commitDropped, .linkDown, .steppedDown,
        .linkFloor, .uplinkCheck, .busTimeout, .busNak, .remoteCheck, .remoteDropped, .gateRefused, .inboxDropped].map
        Flag.number = (List.range 17).map (32 + ·))
  ∧ (∀ s : State,
    let unmasked := fun k => s.flagUnit.masks.getMsbD k = false
    (s.attn = true ↔ s.resetLow = false ∧
      ((∃ f : Flag, s.hasFlag f = true ∧ unmasked f.number)
        ∨ (s.bus.replyMark ≤ s.bus.localReplies.length ∧ unmasked 56)
        ∨ (s.mail.inbox ≠ [] ∧ unmasked 57)
        ∨ (s.table.commitPending = true ∧ unmasked 58)))
    ∧ s.summary.getLsbD 15 = s.attn
    ∧ (s.summary.getLsbD 14 = true ↔ ∃ p f, s.hasFlag (.port p f) = true)
    ∧ s.summary.extractLsb' 12 2 = (match s.grid.state with
        | .free => 0
        | .locking => 1
        | .locked => 2
        | .holdover => 3)
    ∧ s.summary.extractLsb' 10 2 = (match s.link.state with
        | .silent => 0
        | .training => 1
        | .up => 2)
    ∧ (s.summary.getLsbD 9 = true ↔ true ∈ s.engine.shed)
    ∧ (s.summary.getLsbD 8 = true ↔ s.engine.cut ≠ none)
    ∧ s.summary.getLsbD 7 = s.table.commitPending
    ∧ (s.summary.getLsbD 6 = true ↔ s.bus.replyMark ≤ s.bus.localReplies.length)
    ∧ (s.summary.getLsbD 5 = true ↔ s.mail.inbox ≠ [])
    ∧ s.summary.getLsbD 4 = s.hasFlag .powerOn
    ∧ s.summary.extractLsb' 2 2 = (match s.bus.gate with
        | .shut => 0
        | .single => 1
        | .opened => 2)
    ∧ s.summary.getLsbD 1 = s.mail.hold
    ∧ s.summary.getLsbD 0 = false)
  ∧ ∀ s : State, s.Listens →
    let conditions := (if s.bus.replyMark ≤ s.bus.localReplies.length then mark 56 else 0)
      ||| (if s.mail.inbox = [] then 0 else mark 57) ||| (if s.table.commitPending then mark 58 else 0)
    let flagged := fun f => { s with flagUnit := { s.flagUnit with flags := f } }
    let counted := fun (g a : Byte) (values : List Word) (u : FlagUnit) =>
      (a = 0 → exec (.readCounters g a) s = .next (s.answered 0x05 .done (values.flatMap be16)))
      ∧ (a = 1 → exec (.readCounters g a) s = .next (({ s with flagUnit := u }).answered 0x05 .done (values.flatMap be16)))
    (exec .readStatus s = .next (s.answered 0x02 .done
      (be64 ((s.flagUnit.flags &&& 0xFFFFFFFFFFFF8000) ||| conditions) ++ be64 s.flagUnit.masks)))
    ∧ (∀ m, exec (.setAttnMask m) s = .next (({ s with flagUnit := { s.flagUnit with
        masks := m &&& 0xFFFFFFFFFFFF80E0 } }).answered 0x04 .done []))
    ∧ (∀ ns, Request.wellFormed (.clearFlags ns) = true → (∃ k ∈ ns, 48 < BitVec.toNat k) →
        exec (.clearFlags ns) s = .next (s.answered 0x03 .range []))
    ∧ (∀ ns, Request.wellFormed (.clearFlags ns) = true → (∀ k ∈ ns, BitVec.toNat k ≤ 48) → ns ≠ [] →
        exec (.clearFlags ns) s = .next ((settleBus (flagged
          (ns.foldl (fun f k => f &&& ~~~mark k.toNat) s.flagUnit.flags))).answered 0x03 .done []))
    ∧ exec (.clearFlags []) s = .next ((settleBus (flagged 0)).answered 0x03 .done [])
    ∧ (∀ p a, let c := s.flagUnit.ports.get p
        counted (byteOf (PortId.toNat p)) a
          [c.linesTaken, c.concealed, c.damaged, c.late, c.stale, c.stray, c.unanswered, c.callsWithheld, c.truncated,
            c.abandoned, c.shedLines, c.cutLines]
          { s.flagUnit with ports := s.flagUnit.ports.set p ⟨0, 0, 0, 0, 0, 0, 0, 0, 0, 0, 0, 0⟩ })
    ∧ (∀ a, let c := s.flagUnit.link
        counted 4 a [c.uplinkErrors, c.markerMisses, c.stepsDown, c.stepsUp] { s.flagUnit with link := ⟨0, 0, 0, 0⟩ })
    ∧ (∀ a, let c := s.flagUnit.bus
        counted 5 a [c.transactions, c.timeouts, c.naks, c.remoteDropped, c.inboxDropped]
          { s.flagUnit with bus := ⟨0, 0, 0, 0, 0⟩ })
    ∧ (∀ g a : Byte, (5 < g.toNat ∨ 1 < a.toNat) → exec (.readCounters g a) s = .next (s.answered 0x05 .range []))

/-! ### Requests of the Line Grid, the ports and the servos -/

/-- R16: SET-TIMING: STATE while a port is enabled, RANGE by its ranges and the fit of F + D, else F, D and the nominal P and
G are taken. -/
def Obligations.SetTiming : Prop :=
  ∀ (f : Word) (d : Byte) (p g : Word) (s : State), s.Listens →
    let fits := 16 ≤ f.toNat ∧ f.toNat ≤ 4095 ∧ 1 ≤ d.toNat ∧ d.toNat ≤ 8 ∧ 1000 ≤ p.toNat ∧ p.toNat ≤ 8191
      ∧ 16 ≤ g.toNat ∧ g.toNat ≤ 4095 ∧ f.toNat + d.toNat ≤ g.toNat ∧ f.toNat + d.toNat ≤ s.grid.lines
    ((∃ q, (s.port q).settings.enabled = true) →
      exec (.setTiming f d p g) s = .next (s.answered 0x10 .state []))
    ∧ ((∀ q, (s.port q).settings.enabled = false) → ¬fits →
      exec (.setTiming f d p g) s = .next (s.answered 0x10 .range []))
    ∧ ((∀ q, (s.port q).settings.enabled = false) → fits →
      exec (.setTiming f d p g) s = .next (({ s with grid := { s.grid with
        imageLines := f.toNat
        delay := d.toNat
        nomPeriod := p.toNat
        nomLines := g.toNat } }).answered 0x10 .done []))

/-- R17: READ-GRID's reply, and the grid state's code in the status summary. -/
def Obligations.ReadGrid : Prop :=
  ∀ s : State, s.Listens →
    let g := s.grid
    let code : Nat := match g.state with
      | .free => 0
      | .locking => 1
      | .locked => 2
      | .holdover => 3
    exec .readGrid s = .next (s.answered 0x11 .done
      ([byteOf code] ++ be16n g.period ++ be16n g.lines ++ be16n g.n ++ be32 g.lineCount ++ be32 g.frameCount
        ++ [byteOf g.tag.toNat, byteOf g.missRun, byteOf g.lockRun] ++ be16n g.imageLines ++ [byteOf g.delay]
        ++ be16n g.nomPeriod ++ be16n g.nomLines))
    ∧ (s.summary.extractLsb' 12 2).toNat = code

/-- R22 to R25, R55, R66, R102: SET-PORT: its checks in their order and its effect; `new` are settings in range whose wire
form the body carries. -/
def Obligations.SetPort : Prop :=
  ∀ (port : Byte) (f : PortFields) (s : State), s.Listens →
    let refused := fun o => exec (.setPort port f) s = .next (s.answered 0x18 o [])
    (3 < port.toNat → refused .range)
    ∧ ((∀ new : Settings, ¬(new.InRange ∧ new.bytes = f.bytes)) → refused .range)
    ∧ (∀ (p : PortId) (new : Settings), port.toNat = p.toNat → new.InRange → new.bytes = f.bytes →
        let q := s.port p
        let old := q.settings
        let fixed := old.enabled = true ∧ (old.lineLen ≠ new.lineLen ∨ old.boardId ≠ new.boardId
          ∨ old.resume ≠ new.resume ∨ old.capture ≠ new.capture)
        let enables := old.enabled = false ∧ new.enabled = true
        let tooLong := enables ∧ 1024 < (s.grid.delay + 2) * new.lineLen
        let noSlots := enables
          ∧ ((s.table.active.filter fun e => e.source == .port p).map (·.quota)).sum < new.lineLen
        let taken := { q with settings := new, servo := { q.servo with acc := 0, samples := 0, align := .unknown } }
        (fixed → refused .state)
        ∧ (tooLong → refused .range)
        ∧ (¬tooLong → noSlots → refused .nofit)
        ∧ (¬fixed → ¬tooLong → ¬noSlots → ¬(old.enabled = true ∧ new.enabled = false) →
          exec (.setPort port f) s = .next ((s.setPort p taken).answered 0x18 .done []))
        ∧ (¬fixed → old.enabled = true → new.enabled = false →
          exec (.setPort port f) s = .next ((({ s with engine := { s.engine with
              sending := s.engine.sending.set p none } }).setPort p
            { taken with
              callList := []
              store := { q.store with ring := [], reservedCells := 0, reservedDescs := 0 }
              withhold := .opened
              lane := { q.lane with rx := if q.lane.rx = Reception.waiting then Reception.waiting else .discarding } }).answered
            0x18 .done [])))

/-- R26, R56, R66, R68, R69: READ-PORT's reply, and SET-TRIM. -/
def Obligations.PortReadAndTrim : Prop :=
  (∀ (port : Byte) (s : State), s.Listens →
      (3 < port.toNat → exec (.readPort port) s = .next (s.answered 0x19 .range []))
      ∧ ∀ p : PortId, port.toNat = p.toNat →
        let q := s.port p
        let lane : Byte := match q.lane.state with
          | .down => 0
          | .acquiring => 1
          | .up => 2
        let align : Byte := match q.servo.align with
          | .unknown => 0
          | .aligned => 1
          | .drifting => 2
        let held := (q.store.ring.map (·.count)).sum
        let oldest : List Byte := match q.store.ring with
          | [] => List.replicate 12 0
          | d :: _ =>
            [1, byteOf d.tag.toNat] ++ be16n d.line ++ be32 d.callCount
              ++ [match d.state with
                | .filling => 0
                | .complete => 1
                | .damaged => 2
                | .sending => 3]
              ++ (match d.capture with
                | some a => [1] ++ be16n a
                | none => [0, 0, 0])
        exec (.readPort port) s = .next (s.answered 0x19 .done
          ([lane, byteOfBool q.settings.enabled, byteOfBool (decide (q.withhold = .withholding)), byteOf q.store.ring.length]
            ++ be16n held ++ be16n (held + q.store.reservedCells) ++ [byteOf q.callList.length] ++ oldest
            ++ be16i q.servo.trim ++ be16n (s.grid.phase.get p) ++ be16i q.servo.lastMean
            ++ [align, byteOfBool (decide (q.settings.mode = .track))] ++ q.settings.bytes)))
  ∧ ∀ (port : Byte) (trim : Word) (s : State), s.Listens →
      (3 < port.toNat → exec (.setTrim port trim) s = .next (s.answered 0x1A .range []))
      ∧ ((trim.toInt < -512 ∨ 511 < trim.toInt) → exec (.setTrim port trim) s = .next (s.answered 0x1A .range []))
      ∧ ∀ p : PortId, port.toNat = p.toNat → -512 ≤ trim.toInt → trim.toInt ≤ 511 →
          exec (.setTrim port trim) s = .next ((s.setPort p { s.port p with servo := { (s.port p).servo with
            trim := trim.toInt
            acc := 0
            samples := 0
            align := .unknown } }).answered 0x1A .done [])

/-! ### Requests of the Weave Table and the Triax Link -/

/-- R70, R73: STAGE-SLOTS: BUSY while a commit is pending, RANGE by its fields, else the entries are written in order and the
length is set. -/
def Obligations.StageSlots : Prop :=
  ∀ (first newLen : Byte) (fields : List SlotFields) (s : State), s.Listens → fields.length ≤ 169 →
    let staged := s.table.staged
    let a := first.toNat
    let n := newLen.toNat
    let k := fields.length
    let entryOk := fun e : SlotFields => e.source.toNat ≤ 6 ∧ 1 ≤ e.quota.toNat ∧ e.quota.toNat ≤ 240 ∧ e.priority.toNat ≤ 3
    let ok := a ≤ 31 ∧ 1 ≤ n ∧ n ≤ 32 ∧ k ≤ 32 ∧ a + k ≤ n ∧ a ≤ staged.length
      ∧ ¬(staged.length < n ∧ a + k < n) ∧ ∀ e ∈ fields, entryOk e
    (s.table.commitPending = true → exec (.stageSlots first newLen fields) s = .next (s.answered 0x20 .busy []))
    ∧ (s.table.commitPending = false → ¬ok →
      exec (.stageSlots first newLen fields) s = .next (s.answered 0x20 .range []))
    ∧ (s.table.commitPending = false → ok →
      ∃ bank : List SlotEntry,
        exec (.stageSlots first newLen fields) s =
          .next (({ s with table := { s.table with staged := bank } }).answered 0x20 .done [])
        ∧ bank.length = n
        ∧ (∀ (i : Nat) (e : SlotFields), fields[i]? = some e →
          ∃ d : SlotEntry, bank[a + i]? = some d ∧ d.source.code = e.source ∧ d.quota = e.quota.toNat
            ∧ d.priority = e.priority.toNat)
        ∧ (∀ i, i < n → (i < a ∨ a + k ≤ i) → bank[i]? = staged[i]?))

/-- R74: READ-SLOTS: either bank, or RANGE. -/
def Obligations.ReadSlots : Prop :=
  ∀ (selector : Byte) (s : State), s.Listens →
    let body := fun bank : List SlotEntry =>
      [selector, byteOf bank.length, s.table.generation, byteOfBool s.table.commitPending]
        ++ bank.flatMap fun e =>
          [(match e.source with
            | .port p => byteOf p.toNat
            | .anc => 4
            | .ret => 5
            | .fill => 6), byteOf e.quota, byteOf e.priority]
    (selector = 0 → exec (.readSlots selector) s = .next (s.answered 0x21 .done (body s.table.staged)))
    ∧ (selector = 1 → exec (.readSlots selector) s = .next (s.answered 0x21 .done (body s.table.active)))
    ∧ (1 < selector.toNat → exec (.readSlots selector) s = .next (s.answered 0x21 .range []))

/-- R76, R77, R83: COMMIT-SLOTS: BUSY, NOFIT, or the pending mark; and READ-WEAVE's reply. -/
def Obligations.CommitAndReadWeave : Prop :=
  ∀ s : State, s.Listens →
    let room := if s.link.framesRunning then s.engine.capacity.getD 0
      else s.grid.period * [3, 6, 10, 15, 20, 26].getD s.link.ceiling 26 / 256 - 2
    let total := fun (bank : List SlotEntry) (p : PortId) =>
      ((bank.filter fun e => e.source == .port p).map (·.quota)).sum
    let fits := 1 ≤ s.table.staged.length
      ∧ ((s.table.staged.filter fun e => e.priority == 0).map (·.quota)).sum ≤ room
      ∧ ∀ p, (s.port p).settings.enabled = true → (s.port p).settings.lineLen ≤ total s.table.staged p
    (s.table.commitPending = true → exec .commitSlots s = .next (s.answered 0x22 .busy []))
    ∧ (s.table.commitPending = false → ¬fits → exec .commitSlots s = .next (s.answered 0x22 .nofit []))
    ∧ (s.table.commitPending = false → fits → exec .commitSlots s =
        .next (({ s with table := { s.table with commitPending := true } }).answered 0x22 .done []))
    ∧ exec .readWeave s = .next (s.answered 0x23 .done
        ([(match s.engine.frameClass with
            | some c => byteOf c
            | none => 0xFF)]
          ++ be16n (s.engine.capacity.getD 0) ++ be16n room
          ++ [byteOfBool s.table.commitPending, s.table.generation, byteOf s.table.active.length]
          ++ packMarks s.engine.shed
          ++ (match s.engine.cut with
            | some c => [byteOf c.index, byteOf c.cells]
            | none => [0xFF, 0])
          ++ be16n (total s.table.active .p0) ++ be16n (total s.table.active .p1)
          ++ be16n (total s.table.active .p2) ++ be16n (total s.table.active .p3)))

/-- R120: SET-LINK: a ceiling below the class in force waits for the frame start with that class scheduled; else it stands at
once and lowers a scheduled class; an accepted class above the ceiling is cleared, or lowered in UP before frames run. That a
scheduled class the request does not lower stays, even where it equals the class in force, is the model's reading (assumption
log 17), and so is that clearing the accepted class leaves the training expiry running (assumption log 18). -/
def Obligations.SetLink : Prop :=
  ∀ (ceiling : Byte) (threshold : Word) (s : State), s.Listens →
    let m := ceiling.toNat
    let k := s.link
    let waits := k.framesRunning = true ∧ ∃ c, k.inForce = some c ∧ m < c
    let settled := fun l : Link =>
      if ∃ c, k.accepted = some c ∧ l.ceiling < c then
        (if k.state = .up ∧ k.framesRunning = false then { l with accepted := some l.ceiling, answer := .accept l.ceiling }
        else { l with accepted := none, answer := .none })
      else l
    let waiting := settled
      { k with
        threshold := threshold.toNat
        pendingCeiling := some m
        scheduled := some m }
    let standing := settled
      { k with
        threshold := threshold.toNat
        ceiling := m
        pendingCeiling := none
        scheduled := match k.scheduled with
          | none => none
          | some c => if c ≤ m then some c else if k.inForce = some m then none else some m }
    (5 < m → exec (.setLink ceiling threshold) s = .next (s.answered 0x28 .range []))
    ∧ (m ≤ 5 → waits → exec (.setLink ceiling threshold) s =
        .next (({ s with link := waiting }).answered 0x28 .done []))
    ∧ (m ≤ 5 → ¬waits → exec (.setLink ceiling threshold) s =
        .next (({ s with link := standing }).answered 0x28 .done []))

/-- R121: READ-LINK's reply. -/
def Obligations.ReadLink : Prop :=
  ∀ s : State, s.Listens →
    let k := s.link
    let cls := fun c : Option Nat => match c with
      | some c => byteOf c
      | none => 0xFF
    let state : Byte := match k.state with
      | .silent => 0
      | .training => 1
      | .up => 2
    let assembly : Byte := match k.assembly with
      | .idle => 0
      | .collecting _ => 1
      | .discarding => 2
    exec .readLink s = .next (s.answered 0x29 .done
      ([state, byteOfBool k.framesRunning, cls k.inForce, cls k.scheduled, byteOf k.ceiling, cls k.pendingCeiling,
          cls k.accepted] ++ be16n k.threshold ++ [byteOf k.badRun, byteOf k.cleanRun] ++ be16n k.lastE
        ++ [byteOf k.failureRun, assembly]))

/-! ### Requests of the board bus, the ancillary buffer and the mailboxes -/

/-- R123, R125, R126, R130, R131, R134: FORWARD: RANGE by its fields, FULL at 8 outstanding, else queued at the newest end, and
then what is due at the bus happens (GrantsAndGate): with the bus occupied it waits its turn, and with the bus idle and
nothing waiting it is released at once. -/
def Obligations.Forward : Prop :=
  ∀ (f : ForwardFields) (s : State), s.Listens → f.wellFormed = true →
    let t : Txn := ⟨.toLocal, f.tag, f.board, f.kind, 0, 0, f.start, f.count, f.words⟩
    let ok := f.kind.toNat ≤ 1 ∧ (f.board.toNat ≤ 3 ∨ f.board = 7) ∧ 1 ≤ f.count.toNat ∧ f.count.toNat ≤ 32
      ∧ f.start.toNat + f.count.toNat ≤ 4096 ∧ ¬(f.kind = 1 ∧ f.board = 7)
    let n := s.bus.localOutstanding
    let queued := { s with bus := { s.bus with localQueue := s.bus.localQueue ++ [t] } }
    let answer := [byteOf (n + 1)]
    (¬ok → exec (.forward f) s = .next (s.answered 0x30 .range []))
    ∧ (ok → 8 ≤ n → exec (.forward f) s = .next (s.answered 0x30 .full []))
    ∧ (ok → n < 8 → exec (.forward f) s = .next ((settleBus queued).answered 0x30 .done answer))
    ∧ (ok → n < 8 → s.bus.txn.isSome → s.bus.remoteQueue = [] →
        exec (.forward f) s = .next (queued.answered 0x30 .done answer))
    ∧ (ok → n < 8 → s.bus.txn = none → s.bus.grantingStopped = false → s.bus.localQueue = [] → s.bus.remoteQueue = [] →
        exec (.forward f) s = .next ((({ s with bus := { s.bus with
          txn := some ⟨t, .select, 0, false, [], none, .passed, none⟩
          lastServed := .toLocal
          out := [.select f.board f.kind f.start f.count] } }).countBus fun c =>
            { c with transactions := bump c.transactions }).answered 0x30 .done answer))

/-- R133, R139, R140: SET-GATE, FETCH-REPLIES and SET-BUS. That a fetched reply begins with its origin is read from R124
(assumption log 12). -/
def Obligations.BusRequests : Prop :=
  ∀ s : State, s.Listens →
    let gated := fun (g : GateMode) (permit : Bool) =>
      (Host.Outcome.next (({ s with bus := { s.bus with gate := g, permit := permit } }).answered 0x32 .done []) :
        Host.Outcome State Fault Refusal)
    let replyFields := fun r : BusReply =>
      (match r.origin with
        | .toLocal => [0]
        | .remote => [1]) ++ [r.tag, r.board, r.kind, r.result.code, byteOf r.done] ++ be16 r.next ++ r.reads.flatMap be16
    (exec (.setGate 0) s = gated .shut false ∧ exec (.setGate 1) s = gated .single true
      ∧ exec (.setGate 2) s = gated .opened false
      ∧ ∀ m : Byte, 2 < m.toNat → exec (.setGate m) s = .next (s.answered 0x32 .range []))
    ∧ (∀ n : Byte, (n = 0 ∨ 4 < n.toNat) → exec (.fetchReplies n) s = .next (s.answered 0x31 .range []))
    ∧ (∀ n : Byte, 1 ≤ n.toNat → n.toNat ≤ 4 → s.bus.localReplies = [] →
        exec (.fetchReplies n) s = .next (s.answered 0x31 .empty []))
    ∧ (∀ n : Byte, 1 ≤ n.toNat → n.toNat ≤ 4 → s.bus.localReplies ≠ [] →
        exec (.fetchReplies n) s = .next (({ s with bus := { s.bus with
          localReplies := s.bus.localReplies.drop n.toNat } }).answered 0x31 .done
          (byteOf (min n.toNat s.bus.localReplies.length) :: (s.bus.localReplies.take n.toNat).flatMap replyFields)))
    ∧ (∀ (timeout : Word) (m : Byte), let ok := 10 ≤ timeout.toNat ∧ timeout.toNat ≤ 1000 ∧ 1 ≤ m.toNat ∧ m.toNat ≤ 8
        (¬ok → exec (.setBus timeout m) s = .next (s.answered 0x33 .range []))
        ∧ (ok → exec (.setBus timeout m) s = .next (({ s with bus := { s.bus with
          answerTimeout := timeout.toNat
          replyMark := m.toNat } }).answered 0x33 .done [])))

/-- R142 to R144, R147, R150: ANC-MODE, ANC-LOAD in both modes (where its bytes go, and that every other byte stays),
MAIL-SEND and MAIL-FETCH. -/
def Obligations.AncAndMailRequests : Prop :=
  ∀ s : State, s.Listens → s.anc.store.wf = true →
    let a := s.anc
    let windows : List Nat := [32, 64, 128, 256, 512, 1024, 2048, 4096]
    (∀ (m : Byte) (w : Word), let ok := m.toNat ≤ 1 ∧ w.toNat ∈ windows
      (¬ok → exec (.ancMode m w) s = .next (s.answered 0x38 .range []))
      ∧ (ok → exec (.ancMode m w) s = .next (({ s with anc :=
        ⟨a.store, if m = 1 then .repeating else .stream, 0, 0, w.toNat, 0, 0⟩ }).answered 0x38 .done [])))
    ∧ (∀ (o : Word) (bytes : List Byte), bytes.length ≤ 510 → a.mode = .stream → 4096 < a.fill + bytes.length →
        exec (.ancLoad o bytes) s = .next (s.answered 0x39 .full []))
    ∧ (∀ (o : Word) (bytes : List Byte), bytes.length ≤ 510 → a.mode = .stream → a.fill + bytes.length ≤ 4096 →
        ∃ store, exec (.ancLoad o bytes) s = .next (({ s with anc := { a with
            store := store
            fill := a.fill + bytes.length } }).answered 0x39 .done (be16n (a.fill + bytes.length)))
          ∧ (∀ (j : Nat) (b : Byte), bytes[j]? = some b → Memory.read store ((a.readPoint + a.fill + j) % 4096) = b)
          ∧ (∀ addr, (∀ j, j < bytes.length → addr ≠ (a.readPoint + a.fill + j) % 4096) →
              Memory.read store addr = Memory.read a.store addr))
    ∧ (∀ (o : Word) (bytes : List Byte), bytes.length ≤ 510 → a.mode = .repeating → 4096 < o.toNat + bytes.length →
        exec (.ancLoad o bytes) s = .next (s.answered 0x39 .range []))
    ∧ (∀ (o : Word) (bytes : List Byte), bytes.length ≤ 510 → a.mode = .repeating → o.toNat + bytes.length ≤ 4096 →
        ∃ store, exec (.ancLoad o bytes) s = .next (({ s with anc := { a with store := store } }).answered 0x39 .done
            (be16n a.fill))
          ∧ (∀ (j : Nat) (b : Byte), bytes[j]? = some b → Memory.read store (o.toNat + j) = b)
          ∧ (∀ addr, (addr < o.toNat ∨ o.toNat + bytes.length ≤ addr) → Memory.read store addr = Memory.read a.store addr))
    ∧ (∀ b : List Byte, b.length ≤ 64 → 8 ≤ s.mail.outbox.length →
        exec (.mailSend b) s = .next (s.answered 0x3A .full []))
    ∧ (∀ b : List Byte, b.length ≤ 64 → s.mail.outbox.length < 8 →
        exec (.mailSend b) s = .next (({ s with mail := { s.mail with outbox := s.mail.outbox ++ [b] } }).answered 0x3A .done
          [byteOf (s.mail.outbox.length + 1)]))
    ∧ (s.mail.inbox = [] → exec .mailFetch s = .next (s.answered 0x3B .empty []))
    ∧ (∀ b bs, s.mail.inbox = b :: bs →
        exec .mailFetch s = .next (({ s with mail := { s.mail with
          inbox := bs
          hold := if 6 ≤ s.bus.remoteOutstanding ∨ 6 ≤ bs.length then true
            else if s.bus.remoteOutstanding ≤ 2 ∧ bs.length ≤ 2 then false else s.mail.hold } }).answered 0x3B .done
          (byteOf bs.length :: b)))
end

