-- ==== Sys2Proof/Laws/Memory.lean ====
section
/-! SUPPORT. The byte stores: a read after a write, and that every operation keeps the canonical form (the lemma each proof
about memory cites). -/

namespace Sys2Proof.Machine

/-! ### Reading after a write -/

theorem Memory.read_of_lt (m : Memory) (a : Nat) (h : ∀ e ∈ m, a < e.1) : Memory.read m a = 0 := by
  induction m with
  | nil => rfl
  | cons e rest ih =>
    obtain ⟨k, v⟩ := e
    have hk : a < k := h (k, v) (by simp)
    have hne : ¬k = a := by omega
    simp only [Memory.read, hne, if_false]
    exact ih fun e he => h e (by simp [he])

/-- The canonical form, unfolded. -/
theorem Memory.wf_iff (m : Memory) : m.wf = true ↔ (m.Pairwise fun x y => x.1 < y.1) ∧ ∀ e ∈ m, e.2 ≠ 0 := by
  simp [Memory.wf]

theorem Memory.wf_cons (e : Host.Cell) (m : Memory) :
    Memory.wf (e :: m) = true ↔ (∀ x ∈ m, e.1 < x.1) ∧ e.2 ≠ 0 ∧ Memory.wf m = true := by
  simp only [Memory.wf_iff, List.pairwise_cons, List.mem_cons, forall_eq_or_imp]
  exact ⟨fun ⟨⟨a, b⟩, c, d⟩ => ⟨a, c, b, d⟩, fun ⟨a, c, b, d⟩ => ⟨⟨a, b⟩, c, d⟩⟩

/-- Every address a write lists was listed or is the one written. -/
theorem Memory.mem_write (m : Memory) (a : Nat) (b : Byte) (e : Host.Cell) (h : e ∈ Memory.write m a b) :
    e ∈ m ∨ (e = (a, b) ∧ b ≠ 0) := by
  induction m with
  | nil =>
    simp only [Memory.write] at h
    split at h
    · simp at h
    · rename_i hb
      exact .inr ⟨List.mem_singleton.1 h, hb⟩
  | cons x rest ih =>
    obtain ⟨k, v⟩ := x
    simp only [Memory.write] at h
    split at h
    · split at h
      · exact .inl h
      · rcases List.mem_cons.1 h with h | h
        · right; exact ⟨h, ‹_›⟩
        · exact .inl h
    · split at h
      · split at h
        · exact .inl (List.mem_cons_of_mem _ h)
        · rcases List.mem_cons.1 h with h | h
          · right; exact ⟨h, ‹_›⟩
          · exact .inl (List.mem_cons_of_mem _ h)
      · rcases List.mem_cons.1 h with h | h
        · left; simp [h]
        · rcases ih h with h | h
          · exact .inl (List.mem_cons_of_mem _ h)
          · exact .inr h

/-- A write keeps the canonical form. -/
theorem Memory.wf_write (m : Memory) (a : Nat) (b : Byte) (h : m.wf = true) : (Memory.write m a b).wf = true := by
  induction m with
  | nil =>
    simp only [Memory.write]
    split
    · rfl
    · rw [Memory.wf_cons]; exact ⟨by simp, by assumption, rfl⟩
  | cons x rest ih =>
    obtain ⟨k, v⟩ := x
    obtain ⟨hlt, hv, hr⟩ := (Memory.wf_cons _ _).1 h
    simp only [Memory.write]
    split
    · split
      · exact h
      · rw [Memory.wf_cons]
        refine ⟨?_, by assumption, h⟩
        intro x hx
        rcases List.mem_cons.1 hx with rfl | hx
        · assumption
        · have := hlt x hx
          dsimp only at this ⊢
          omega
    · split
      · split
        · exact hr
        · rw [Memory.wf_cons]
          refine ⟨?_, by assumption, hr⟩
          intro x hx
          have := hlt x hx
          dsimp only at this ⊢
          omega
      · rw [Memory.wf_cons]
        refine ⟨?_, hv, ih hr⟩
        intro x hx
        rcases Memory.mem_write rest a b x hx with hx | ⟨rfl, -⟩
        · exact hlt x hx
        · dsimp only
          omega

/-- The byte written is the byte read. -/
theorem Memory.read_write_same (m : Memory) (a : Nat) (b : Byte) (h : m.wf = true) :
    Memory.read (Memory.write m a b) a = b := by
  induction m with
  | nil =>
    simp only [Memory.write]
    split
    · simp [Memory.read, *]
    · simp [Memory.read]
  | cons x rest ih =>
    obtain ⟨k, v⟩ := x
    obtain ⟨hlt, -, hr⟩ := (Memory.wf_cons _ _).1 h
    simp only [Memory.write]
    split
    · split
      · rename_i hk hb
        rw [hb]
        refine Memory.read_of_lt _ _ fun e he => ?_
        rcases List.mem_cons.1 he with rfl | he
        · exact hk
        · have := hlt e he
          dsimp only at this
          omega
      · simp [Memory.read]
    · split
      · split
        · rename_i hk hb
          rw [hb]
          refine Memory.read_of_lt _ _ fun e he => ?_
          have := hlt e he
          dsimp only at this
          omega
        · simp [Memory.read]
      · rename_i hk1 hk2
        have hne : ¬k = a := by omega
        simp only [Memory.read, hne, if_false]
        exact ih hr

/-- A write leaves every other address alone. -/
theorem Memory.read_write_other (m : Memory) (a c : Nat) (b : Byte) (h : c ≠ a) :
    Memory.read (Memory.write m a b) c = Memory.read m c := by
  have hac : ¬a = c := fun e => h e.symm
  induction m with
  | nil =>
    simp only [Memory.write]
    split
    · rfl
    · simp [Memory.read, hac]
  | cons x rest ih =>
    obtain ⟨k, v⟩ := x
    simp only [Memory.write]
    split
    · split
      · rfl
      · simp [Memory.read, hac]
    · split
      · rename_i hk
        subst hk
        split <;> simp [Memory.read, hac]
      · simp only [Memory.read, ih]

/-! ### The operations over runs of bytes -/

theorem Memory.wf_writeList (bs : List Byte) (m : Memory) (a : Nat) (h : m.wf = true) :
    (Memory.writeList m a bs).wf = true := by
  induction bs generalizing m a with
  | nil => exact h
  | cons b bs ih => exact ih _ _ (Memory.wf_write m a b h)

theorem Memory.wf_writeRing (size : Nat) (bs : List Byte) (m : Memory) (a : Nat) (h : m.wf = true) :
    (Memory.writeRing size m a bs).wf = true := by
  induction bs generalizing m a with
  | nil => exact h
  | cons b bs ih => exact ih _ _ (Memory.wf_write m _ b h)

theorem Memory.wf_zeroCells (m : Memory) (cells : List (Fin 1024)) (h : m.wf = true) :
    (Memory.zeroCells m cells).wf = true := by
  rw [Memory.wf_iff] at h ⊢
  exact ⟨h.1.filter _, fun e he => h.2 e (List.mem_filter.1 he).1⟩

/-- A byte at an address a filter of addresses removes reads 0x00, every other byte reads as before. -/
theorem Memory.read_filter (f : Nat → Bool) (m : Memory) (a : Nat) :
    Memory.read (m.filter fun e => f e.1) a = if f a then Memory.read m a else 0 := by
  induction m with
  | nil => simp [Memory.read]
  | cons x rest ih =>
    obtain ⟨k, v⟩ := x
    by_cases hk : k = a
    · subst hk
      cases hf : f k
      · simp [hf] at ih; simp [List.filter, hf, ih]
      · simp [List.filter, hf, Memory.read]
    · cases hf : f k <;> simp [List.filter, hf, Memory.read, hk, ih]

/-- R45: an admitted cell's bytes read 0x00, and every other byte reads as before. -/
theorem Memory.read_zeroCells (m : Memory) (cells : List (Fin 1024)) (a : Nat) :
    Memory.read (Memory.zeroCells m cells) a = if cells.any (fun c => c.val == a / 32) then 0 else Memory.read m a := by
  have h := Memory.read_filter (fun k => !(cells.any fun c => c.val == k / 32)) m a
  simp only [Memory.zeroCells]
  rw [h]
  cases cells.any fun c => c.val == a / 32 <;> rfl

/-! ### Address ranges -/

theorem Memory.bound_write (size : Nat) (m : Memory) (a : Nat) (b : Byte) (h : ∀ e ∈ m, e.1 < size) (ha : a < size) :
    ∀ e ∈ Memory.write m a b, e.1 < size := by
  intro e he
  rcases Memory.mem_write m a b e he with he | ⟨rfl, -⟩
  · exact h e he
  · exact ha

theorem Memory.bound_writeList (size : Nat) (bs : List Byte) (m : Memory) (a : Nat) (h : ∀ e ∈ m, e.1 < size)
    (ha : a + bs.length ≤ size) : ∀ e ∈ Memory.writeList m a bs, e.1 < size := by
  induction bs generalizing m a with
  | nil => exact h
  | cons b bs ih =>
    simp only [List.length_cons] at ha
    exact ih _ _ (Memory.bound_write size m a b h (by omega)) (by omega)

theorem Memory.bound_writeRing (size : Nat) (bs : List Byte) (m : Memory) (a : Nat) (h : ∀ e ∈ m, e.1 < size)
    (hs : 0 < size) : ∀ e ∈ Memory.writeRing size m a bs, e.1 < size := by
  induction bs generalizing m a with
  | nil => exact h
  | cons b bs ih => exact ih _ _ (Memory.bound_write size m _ b h (Nat.mod_lt _ hs))

/-- The reset memories are in canonical form. -/
theorem State.reset_memory_wf : (∀ p, (State.reset.port p).store.pool.wf = true) ∧ State.reset.anc.store.wf = true := by
  refine ⟨fun p => ?_, rfl⟩
  cases p <;> rfl

end Sys2Proof.Machine
end

