-- ==== Sys2Proof/Laws/PerInstr.lean ====
section
/-! SUPPORT. What holds of every command as syntax, one lemma for each constructor: a row that is a request names exactly one
request, which names the row back, and the two are well formed together. -/

namespace Sys2Proof.Laws

open Sys2Proof.Machine

/-- The request a row spells is spelled by that row alone, and is well formed exactly when the row is. -/
def RequestRow.Statement (i : Instr) : Prop :=
  ∀ q, i.request? = some q → q.command = i ∧ q.wellFormed = i.wellFormed

theorem RequestRow.powerOn (resetn : ResetPin) (straps : BitVec 2) :
    RequestRow.Statement (.powerOn resetn straps) := fun _ h => nomatch h
theorem RequestRow.predictionLineStart : RequestRow.Statement .predictionLineStart := fun _ h => nomatch h
theorem RequestRow.fitWindowExpiry : RequestRow.Statement .fitWindowExpiry := fun _ h => nomatch h
theorem RequestRow.callDue (port : PortId) : RequestRow.Statement (.callDue port) := fun _ h => nomatch h
theorem RequestRow.marker (mark : Byte) (period lines : Word) :
    RequestRow.Statement (.marker mark period lines) := fun _ h => nomatch h
theorem RequestRow.laneSignalPresent (port : PortId) :
    RequestRow.Statement (.laneSignalPresent port) := fun _ h => nomatch h
theorem RequestRow.laneSignalLost (port : PortId) : RequestRow.Statement (.laneSignalLost port) := fun _ h => nomatch h
theorem RequestRow.laneSymbol (port : PortId) (symbol : LaneSymbol) :
    RequestRow.Statement (.laneSymbol port symbol) := fun _ h => nomatch h
theorem RequestRow.cellHandover : RequestRow.Statement .cellHandover := fun _ h => nomatch h
theorem RequestRow.returnCellCarried : RequestRow.Statement .returnCellCarried := fun _ h => nomatch h
theorem RequestRow.failedBlock : RequestRow.Statement .failedBlock := fun _ h => nomatch h
theorem RequestRow.offer (cls : Byte) : RequestRow.Statement (.offer cls) := fun _ h => nomatch h
theorem RequestRow.start (cls : Byte) : RequestRow.Statement (.start cls) := fun _ h => nomatch h
theorem RequestRow.health (errors : Word) : RequestRow.Statement (.health errors) := fun _ h => nomatch h
theorem RequestRow.uplinkIdle : RequestRow.Statement .uplinkIdle := fun _ h => nomatch h
theorem RequestRow.segment (marks len : Byte) (payload : List Byte) :
    RequestRow.Statement (.segment marks len payload) := fun _ h => nomatch h
theorem RequestRow.silenceExpiry : RequestRow.Statement .silenceExpiry := fun _ h => nomatch h
theorem RequestRow.trainingExpiry : RequestRow.Statement .trainingExpiry := fun _ h => nomatch h
theorem RequestRow.wordSent : RequestRow.Statement .wordSent := fun _ h => nomatch h
theorem RequestRow.boardAnswer (answer : BoardAnswer) :
    RequestRow.Statement (.boardAnswer answer) := fun _ h => nomatch h
theorem RequestRow.readWord (word : Word) : RequestRow.Statement (.readWord word) := fun _ h => nomatch h
theorem RequestRow.answerTimeout : RequestRow.Statement .answerTimeout := fun _ h => nomatch h
theorem RequestRow.mgmtByte (byte : Byte) : RequestRow.Statement (.mgmtByte byte) := fun _ h => nomatch h
theorem RequestRow.gapExpiry : RequestRow.Statement .gapExpiry := fun _ h => nomatch h
theorem RequestRow.replyEnd : RequestRow.Statement .replyEnd := fun _ h => nomatch h
theorem RequestRow.unknownKind (kind : Byte) (body : List Byte) :
    RequestRow.Statement (.unknownKind kind body) := fun _ h => nomatch h
theorem RequestRow.identify : RequestRow.Statement .identify := fun _ h => by cases h; exact ⟨rfl, rfl⟩
theorem RequestRow.readStatus : RequestRow.Statement .readStatus := fun _ h => by cases h; exact ⟨rfl, rfl⟩
theorem RequestRow.clearFlags (numbers : List Byte) :
    RequestRow.Statement (.clearFlags numbers) := fun _ h => by cases h; exact ⟨rfl, rfl⟩
theorem RequestRow.setAttnMask (marks : BitVec 64) :
    RequestRow.Statement (.setAttnMask marks) := fun _ h => by cases h; exact ⟨rfl, rfl⟩
theorem RequestRow.readCounters (group action : Byte) :
    RequestRow.Statement (.readCounters group action) := fun _ h => by cases h; exact ⟨rfl, rfl⟩
theorem RequestRow.restart : RequestRow.Statement .restart := fun _ h => by cases h; exact ⟨rfl, rfl⟩
theorem RequestRow.setTiming (imageLines : Word) (delay : Byte) (period lines : Word) :
    RequestRow.Statement (.setTiming imageLines delay period lines) := fun _ h => by cases h; exact ⟨rfl, rfl⟩
theorem RequestRow.readGrid : RequestRow.Statement .readGrid := fun _ h => by cases h; exact ⟨rfl, rfl⟩
theorem RequestRow.setPort (port : Byte) (fields : PortFields) :
    RequestRow.Statement (.setPort port fields) := fun _ h => by cases h; exact ⟨rfl, rfl⟩
theorem RequestRow.readPort (port : Byte) :
    RequestRow.Statement (.readPort port) := fun _ h => by cases h; exact ⟨rfl, rfl⟩
theorem RequestRow.setTrim (port : Byte) (trim : Word) :
    RequestRow.Statement (.setTrim port trim) := fun _ h => by cases h; exact ⟨rfl, rfl⟩
theorem RequestRow.stageSlots (first newLen : Byte) (entries : List SlotFields) :
    RequestRow.Statement (.stageSlots first newLen entries) := fun _ h => by cases h; exact ⟨rfl, rfl⟩
theorem RequestRow.readSlots (selector : Byte) :
    RequestRow.Statement (.readSlots selector) := fun _ h => by cases h; exact ⟨rfl, rfl⟩
theorem RequestRow.commitSlots : RequestRow.Statement .commitSlots := fun _ h => by cases h; exact ⟨rfl, rfl⟩
theorem RequestRow.readWeave : RequestRow.Statement .readWeave := fun _ h => by cases h; exact ⟨rfl, rfl⟩
theorem RequestRow.setLink (ceiling : Byte) (threshold : Word) :
    RequestRow.Statement (.setLink ceiling threshold) := fun _ h => by cases h; exact ⟨rfl, rfl⟩
theorem RequestRow.readLink : RequestRow.Statement .readLink := fun _ h => by cases h; exact ⟨rfl, rfl⟩
theorem RequestRow.forward (fields : ForwardFields) :
    RequestRow.Statement (.forward fields) := fun _ h => by cases h; exact ⟨rfl, rfl⟩
theorem RequestRow.fetchReplies (n : Byte) :
    RequestRow.Statement (.fetchReplies n) := fun _ h => by cases h; exact ⟨rfl, rfl⟩
theorem RequestRow.setGate (mode : Byte) :
    RequestRow.Statement (.setGate mode) := fun _ h => by cases h; exact ⟨rfl, rfl⟩
theorem RequestRow.setBus (timeout : Word) (mark : Byte) :
    RequestRow.Statement (.setBus timeout mark) := fun _ h => by cases h; exact ⟨rfl, rfl⟩
theorem RequestRow.ancMode (mode : Byte) (window : Word) :
    RequestRow.Statement (.ancMode mode window) := fun _ h => by cases h; exact ⟨rfl, rfl⟩
theorem RequestRow.ancLoad (offset : Word) (bytes : List Byte) :
    RequestRow.Statement (.ancLoad offset bytes) := fun _ h => by cases h; exact ⟨rfl, rfl⟩
theorem RequestRow.mailSend (body : List Byte) :
    RequestRow.Statement (.mailSend body) := fun _ h => by cases h; exact ⟨rfl, rfl⟩
theorem RequestRow.mailFetch : RequestRow.Statement .mailFetch := fun _ h => by cases h; exact ⟨rfl, rfl⟩

end Sys2Proof.Laws
end

