-- ==== Sys2Proof/Laws/State.lean ====
section
/-! SUPPORT. The small lemmas of the state's updates: what each leaves of every field, true by rfl, so that no proof unfolds a
record update. -/

namespace Sys2Proof

/-! ### The four ports -/

@[simp] theorem Quad.get_set_same {α : Type} (q : Quad α) (p : PortId) (x : α) : (q.set p x).get p = x := by
  cases p <;> rfl

theorem Quad.get_set {α : Type} (q : Quad α) (p r : PortId) (x : α) :
    (q.set p x).get r = if r = p then x else q.get r := by
  cases p <;> cases r <;> rfl

@[simp] theorem Quad.get_set_ne {α : Type} (q : Quad α) (p r : PortId) (x : α) (h : r ≠ p) :
    (q.set p x).get r = q.get r := by
  rw [Quad.get_set, if_neg h]

@[simp] theorem Quad.get_const {α : Type} (x : α) (p : PortId) : (Quad.const x).get p = x := by cases p <;> rfl

theorem Quad.ext_get {α : Type} {q r : Quad α} (h : ∀ p, q.get p = r.get p) : q = r := by
  have h0 := h .p0
  have h1 := h .p1
  have h2 := h .p2
  have h3 := h .p3
  cases q
  cases r
  simp_all [Quad.get]

end Sys2Proof

namespace Sys2Proof.Machine

@[simp] theorem State.port_setPort_same (s : State) (p : PortId) (x : Port) : (s.setPort p x).port p = x := by
  simp [State.port, State.setPort]

@[simp] theorem State.port_setPort_ne (s : State) (p r : PortId) (x : Port) (h : r ≠ p) :
    (s.setPort p x).port r = s.port r := by
  simp [State.port, State.setPort, h]

@[simp] theorem State.port_onPort_same (s : State) (p : PortId) (f : Port → Port) :
    (s.onPort p f).port p = f (s.port p) := by
  simp [State.onPort]

@[simp] theorem State.port_onPort_ne (s : State) (p r : PortId) (f : Port → Port) (h : r ≠ p) :
    (s.onPort p f).port r = s.port r := by
  simp [State.onPort, h]

/-! ### State.setPort -/

@[simp] theorem State.setPort_resetLow (s : State) (p : PortId) (x : Port) :
    (s.setPort p x).resetLow = s.resetLow := rfl
@[simp] theorem State.setPort_timebase (s : State) (p : PortId) (x : Port) :
    (s.setPort p x).timebase = s.timebase := rfl
@[simp] theorem State.setPort_grid (s : State) (p : PortId) (x : Port) :
    (s.setPort p x).grid = s.grid := rfl
@[simp] theorem State.setPort_ports (s : State) (p : PortId) (x : Port) :
    (s.setPort p x).ports = s.ports.set p x := rfl
@[simp] theorem State.setPort_table (s : State) (p : PortId) (x : Port) :
    (s.setPort p x).table = s.table := rfl
@[simp] theorem State.setPort_engine (s : State) (p : PortId) (x : Port) :
    (s.setPort p x).engine = s.engine := rfl
@[simp] theorem State.setPort_link (s : State) (p : PortId) (x : Port) :
    (s.setPort p x).link = s.link := rfl
@[simp] theorem State.setPort_bus (s : State) (p : PortId) (x : Port) :
    (s.setPort p x).bus = s.bus := rfl
@[simp] theorem State.setPort_anc (s : State) (p : PortId) (x : Port) :
    (s.setPort p x).anc = s.anc := rfl
@[simp] theorem State.setPort_mail (s : State) (p : PortId) (x : Port) :
    (s.setPort p x).mail = s.mail := rfl
@[simp] theorem State.setPort_mgmt (s : State) (p : PortId) (x : Port) :
    (s.setPort p x).mgmt = s.mgmt := rfl
@[simp] theorem State.setPort_flagUnit (s : State) (p : PortId) (x : Port) :
    (s.setPort p x).flagUnit = s.flagUnit := rfl
@[simp] theorem State.setPort_pending (s : State) (p : PortId) (x : Port) :
    (s.setPort p x).pending = s.pending := rfl

/-! ### State.onPort -/

@[simp] theorem State.onPort_resetLow (s : State) (p : PortId) (f : Port → Port) :
    (s.onPort p f).resetLow = s.resetLow := rfl
@[simp] theorem State.onPort_timebase (s : State) (p : PortId) (f : Port → Port) :
    (s.onPort p f).timebase = s.timebase := rfl
@[simp] theorem State.onPort_grid (s : State) (p : PortId) (f : Port → Port) :
    (s.onPort p f).grid = s.grid := rfl
@[simp] theorem State.onPort_ports (s : State) (p : PortId) (f : Port → Port) :
    (s.onPort p f).ports = s.ports.set p (f (s.port p)) := rfl
@[simp] theorem State.onPort_table (s : State) (p : PortId) (f : Port → Port) :
    (s.onPort p f).table = s.table := rfl
@[simp] theorem State.onPort_engine (s : State) (p : PortId) (f : Port → Port) :
    (s.onPort p f).engine = s.engine := rfl
@[simp] theorem State.onPort_link (s : State) (p : PortId) (f : Port → Port) :
    (s.onPort p f).link = s.link := rfl
@[simp] theorem State.onPort_bus (s : State) (p : PortId) (f : Port → Port) :
    (s.onPort p f).bus = s.bus := rfl
@[simp] theorem State.onPort_anc (s : State) (p : PortId) (f : Port → Port) :
    (s.onPort p f).anc = s.anc := rfl
@[simp] theorem State.onPort_mail (s : State) (p : PortId) (f : Port → Port) :
    (s.onPort p f).mail = s.mail := rfl
@[simp] theorem State.onPort_mgmt (s : State) (p : PortId) (f : Port → Port) :
    (s.onPort p f).mgmt = s.mgmt := rfl
@[simp] theorem State.onPort_flagUnit (s : State) (p : PortId) (f : Port → Port) :
    (s.onPort p f).flagUnit = s.flagUnit := rfl
@[simp] theorem State.onPort_pending (s : State) (p : PortId) (f : Port → Port) :
    (s.onPort p f).pending = s.pending := rfl

/-! ### State.setFlag -/

@[simp] theorem State.setFlag_resetLow (s : State) (f : Flag) :
    (s.setFlag f).resetLow = s.resetLow := rfl
@[simp] theorem State.setFlag_timebase (s : State) (f : Flag) :
    (s.setFlag f).timebase = s.timebase := rfl
@[simp] theorem State.setFlag_grid (s : State) (f : Flag) :
    (s.setFlag f).grid = s.grid := rfl
@[simp] theorem State.setFlag_ports (s : State) (f : Flag) :
    (s.setFlag f).ports = s.ports := rfl
@[simp] theorem State.setFlag_table (s : State) (f : Flag) :
    (s.setFlag f).table = s.table := rfl
@[simp] theorem State.setFlag_engine (s : State) (f : Flag) :
    (s.setFlag f).engine = s.engine := rfl
@[simp] theorem State.setFlag_link (s : State) (f : Flag) :
    (s.setFlag f).link = s.link := rfl
@[simp] theorem State.setFlag_bus (s : State) (f : Flag) :
    (s.setFlag f).bus = s.bus := rfl
@[simp] theorem State.setFlag_anc (s : State) (f : Flag) :
    (s.setFlag f).anc = s.anc := rfl
@[simp] theorem State.setFlag_mail (s : State) (f : Flag) :
    (s.setFlag f).mail = s.mail := rfl
@[simp] theorem State.setFlag_mgmt (s : State) (f : Flag) :
    (s.setFlag f).mgmt = s.mgmt := rfl
@[simp] theorem State.setFlag_flagUnit (s : State) (f : Flag) :
    (s.setFlag f).flagUnit = { s.flagUnit with flags := s.flagUnit.flags ||| mark f.number } := rfl
@[simp] theorem State.setFlag_pending (s : State) (f : Flag) :
    (s.setFlag f).pending = s.pending := rfl

/-! ### State.countPort -/

@[simp] theorem State.countPort_resetLow (s : State) (p : PortId) (f : PortCounters → PortCounters) :
    (s.countPort p f).resetLow = s.resetLow := rfl
@[simp] theorem State.countPort_timebase (s : State) (p : PortId) (f : PortCounters → PortCounters) :
    (s.countPort p f).timebase = s.timebase := rfl
@[simp] theorem State.countPort_grid (s : State) (p : PortId) (f : PortCounters → PortCounters) :
    (s.countPort p f).grid = s.grid := rfl
@[simp] theorem State.countPort_ports (s : State) (p : PortId) (f : PortCounters → PortCounters) :
    (s.countPort p f).ports = s.ports := rfl
@[simp] theorem State.countPort_table (s : State) (p : PortId) (f : PortCounters → PortCounters) :
    (s.countPort p f).table = s.table := rfl
@[simp] theorem State.countPort_engine (s : State) (p : PortId) (f : PortCounters → PortCounters) :
    (s.countPort p f).engine = s.engine := rfl
@[simp] theorem State.countPort_link (s : State) (p : PortId) (f : PortCounters → PortCounters) :
    (s.countPort p f).link = s.link := rfl
@[simp] theorem State.countPort_bus (s : State) (p : PortId) (f : PortCounters → PortCounters) :
    (s.countPort p f).bus = s.bus := rfl
@[simp] theorem State.countPort_anc (s : State) (p : PortId) (f : PortCounters → PortCounters) :
    (s.countPort p f).anc = s.anc := rfl
@[simp] theorem State.countPort_mail (s : State) (p : PortId) (f : PortCounters → PortCounters) :
    (s.countPort p f).mail = s.mail := rfl
@[simp] theorem State.countPort_mgmt (s : State) (p : PortId) (f : PortCounters → PortCounters) :
    (s.countPort p f).mgmt = s.mgmt := rfl
@[simp] theorem State.countPort_flagUnit (s : State) (p : PortId) (f : PortCounters → PortCounters) :
    (s.countPort p f).flagUnit = { s.flagUnit with ports := s.flagUnit.ports.set p (f (s.flagUnit.ports.get p)) } := rfl
@[simp] theorem State.countPort_pending (s : State) (p : PortId) (f : PortCounters → PortCounters) :
    (s.countPort p f).pending = s.pending := rfl

/-! ### State.countLink -/

@[simp] theorem State.countLink_resetLow (s : State) (f : LinkCounters → LinkCounters) :
    (s.countLink f).resetLow = s.resetLow := rfl
@[simp] theorem State.countLink_timebase (s : State) (f : LinkCounters → LinkCounters) :
    (s.countLink f).timebase = s.timebase := rfl
@[simp] theorem State.countLink_grid (s : State) (f : LinkCounters → LinkCounters) :
    (s.countLink f).grid = s.grid := rfl
@[simp] theorem State.countLink_ports (s : State) (f : LinkCounters → LinkCounters) :
    (s.countLink f).ports = s.ports := rfl
@[simp] theorem State.countLink_table (s : State) (f : LinkCounters → LinkCounters) :
    (s.countLink f).table = s.table := rfl
@[simp] theorem State.countLink_engine (s : State) (f : LinkCounters → LinkCounters) :
    (s.countLink f).engine = s.engine := rfl
@[simp] theorem State.countLink_link (s : State) (f : LinkCounters → LinkCounters) :
    (s.countLink f).link = s.link := rfl
@[simp] theorem State.countLink_bus (s : State) (f : LinkCounters → LinkCounters) :
    (s.countLink f).bus = s.bus := rfl
@[simp] theorem State.countLink_anc (s : State) (f : LinkCounters → LinkCounters) :
    (s.countLink f).anc = s.anc := rfl
@[simp] theorem State.countLink_mail (s : State) (f : LinkCounters → LinkCounters) :
    (s.countLink f).mail = s.mail := rfl
@[simp] theorem State.countLink_mgmt (s : State) (f : LinkCounters → LinkCounters) :
    (s.countLink f).mgmt = s.mgmt := rfl
@[simp] theorem State.countLink_flagUnit (s : State) (f : LinkCounters → LinkCounters) :
    (s.countLink f).flagUnit = { s.flagUnit with link := f s.flagUnit.link } := rfl
@[simp] theorem State.countLink_pending (s : State) (f : LinkCounters → LinkCounters) :
    (s.countLink f).pending = s.pending := rfl

/-! ### State.countBus -/

@[simp] theorem State.countBus_resetLow (s : State) (f : BusCounters → BusCounters) :
    (s.countBus f).resetLow = s.resetLow := rfl
@[simp] theorem State.countBus_timebase (s : State) (f : BusCounters → BusCounters) :
    (s.countBus f).timebase = s.timebase := rfl
@[simp] theorem State.countBus_grid (s : State) (f : BusCounters → BusCounters) :
    (s.countBus f).grid = s.grid := rfl
@[simp] theorem State.countBus_ports (s : State) (f : BusCounters → BusCounters) :
    (s.countBus f).ports = s.ports := rfl
@[simp] theorem State.countBus_table (s : State) (f : BusCounters → BusCounters) :
    (s.countBus f).table = s.table := rfl
@[simp] theorem State.countBus_engine (s : State) (f : BusCounters → BusCounters) :
    (s.countBus f).engine = s.engine := rfl
@[simp] theorem State.countBus_link (s : State) (f : BusCounters → BusCounters) :
    (s.countBus f).link = s.link := rfl
@[simp] theorem State.countBus_bus (s : State) (f : BusCounters → BusCounters) :
    (s.countBus f).bus = s.bus := rfl
@[simp] theorem State.countBus_anc (s : State) (f : BusCounters → BusCounters) :
    (s.countBus f).anc = s.anc := rfl
@[simp] theorem State.countBus_mail (s : State) (f : BusCounters → BusCounters) :
    (s.countBus f).mail = s.mail := rfl
@[simp] theorem State.countBus_mgmt (s : State) (f : BusCounters → BusCounters) :
    (s.countBus f).mgmt = s.mgmt := rfl
@[simp] theorem State.countBus_flagUnit (s : State) (f : BusCounters → BusCounters) :
    (s.countBus f).flagUnit = { s.flagUnit with bus := f s.flagUnit.bus } := rfl
@[simp] theorem State.countBus_pending (s : State) (f : BusCounters → BusCounters) :
    (s.countBus f).pending = s.pending := rfl

/-! ### State.onGrid -/

@[simp] theorem State.onGrid_resetLow (s : State) (f : Grid → Grid) :
    (s.onGrid f).resetLow = s.resetLow := rfl
@[simp] theorem State.onGrid_timebase (s : State) (f : Grid → Grid) :
    (s.onGrid f).timebase = s.timebase := rfl
@[simp] theorem State.onGrid_grid (s : State) (f : Grid → Grid) :
    (s.onGrid f).grid = f s.grid := rfl
@[simp] theorem State.onGrid_ports (s : State) (f : Grid → Grid) :
    (s.onGrid f).ports = s.ports := rfl
@[simp] theorem State.onGrid_table (s : State) (f : Grid → Grid) :
    (s.onGrid f).table = s.table := rfl
@[simp] theorem State.onGrid_engine (s : State) (f : Grid → Grid) :
    (s.onGrid f).engine = s.engine := rfl
@[simp] theorem State.onGrid_link (s : State) (f : Grid → Grid) :
    (s.onGrid f).link = s.link := rfl
@[simp] theorem State.onGrid_bus (s : State) (f : Grid → Grid) :
    (s.onGrid f).bus = s.bus := rfl
@[simp] theorem State.onGrid_anc (s : State) (f : Grid → Grid) :
    (s.onGrid f).anc = s.anc := rfl
@[simp] theorem State.onGrid_mail (s : State) (f : Grid → Grid) :
    (s.onGrid f).mail = s.mail := rfl
@[simp] theorem State.onGrid_mgmt (s : State) (f : Grid → Grid) :
    (s.onGrid f).mgmt = s.mgmt := rfl
@[simp] theorem State.onGrid_flagUnit (s : State) (f : Grid → Grid) :
    (s.onGrid f).flagUnit = s.flagUnit := rfl
@[simp] theorem State.onGrid_pending (s : State) (f : Grid → Grid) :
    (s.onGrid f).pending = s.pending := rfl

/-! ### State.onLink -/

@[simp] theorem State.onLink_resetLow (s : State) (f : Link → Link) :
    (s.onLink f).resetLow = s.resetLow := rfl
@[simp] theorem State.onLink_timebase (s : State) (f : Link → Link) :
    (s.onLink f).timebase = s.timebase := rfl
@[simp] theorem State.onLink_grid (s : State) (f : Link → Link) :
    (s.onLink f).grid = s.grid := rfl
@[simp] theorem State.onLink_ports (s : State) (f : Link → Link) :
    (s.onLink f).ports = s.ports := rfl
@[simp] theorem State.onLink_table (s : State) (f : Link → Link) :
    (s.onLink f).table = s.table := rfl
@[simp] theorem State.onLink_engine (s : State) (f : Link → Link) :
    (s.onLink f).engine = s.engine := rfl
@[simp] theorem State.onLink_link (s : State) (f : Link → Link) :
    (s.onLink f).link = f s.link := rfl
@[simp] theorem State.onLink_bus (s : State) (f : Link → Link) :
    (s.onLink f).bus = s.bus := rfl
@[simp] theorem State.onLink_anc (s : State) (f : Link → Link) :
    (s.onLink f).anc = s.anc := rfl
@[simp] theorem State.onLink_mail (s : State) (f : Link → Link) :
    (s.onLink f).mail = s.mail := rfl
@[simp] theorem State.onLink_mgmt (s : State) (f : Link → Link) :
    (s.onLink f).mgmt = s.mgmt := rfl
@[simp] theorem State.onLink_flagUnit (s : State) (f : Link → Link) :
    (s.onLink f).flagUnit = s.flagUnit := rfl
@[simp] theorem State.onLink_pending (s : State) (f : Link → Link) :
    (s.onLink f).pending = s.pending := rfl

/-! ### State.onBus -/

@[simp] theorem State.onBus_resetLow (s : State) (f : Bus → Bus) :
    (s.onBus f).resetLow = s.resetLow := rfl
@[simp] theorem State.onBus_timebase (s : State) (f : Bus → Bus) :
    (s.onBus f).timebase = s.timebase := rfl
@[simp] theorem State.onBus_grid (s : State) (f : Bus → Bus) :
    (s.onBus f).grid = s.grid := rfl
@[simp] theorem State.onBus_ports (s : State) (f : Bus → Bus) :
    (s.onBus f).ports = s.ports := rfl
@[simp] theorem State.onBus_table (s : State) (f : Bus → Bus) :
    (s.onBus f).table = s.table := rfl
@[simp] theorem State.onBus_engine (s : State) (f : Bus → Bus) :
    (s.onBus f).engine = s.engine := rfl
@[simp] theorem State.onBus_link (s : State) (f : Bus → Bus) :
    (s.onBus f).link = s.link := rfl
@[simp] theorem State.onBus_bus (s : State) (f : Bus → Bus) :
    (s.onBus f).bus = f s.bus := rfl
@[simp] theorem State.onBus_anc (s : State) (f : Bus → Bus) :
    (s.onBus f).anc = s.anc := rfl
@[simp] theorem State.onBus_mail (s : State) (f : Bus → Bus) :
    (s.onBus f).mail = s.mail := rfl
@[simp] theorem State.onBus_mgmt (s : State) (f : Bus → Bus) :
    (s.onBus f).mgmt = s.mgmt := rfl
@[simp] theorem State.onBus_flagUnit (s : State) (f : Bus → Bus) :
    (s.onBus f).flagUnit = s.flagUnit := rfl
@[simp] theorem State.onBus_pending (s : State) (f : Bus → Bus) :
    (s.onBus f).pending = s.pending := rfl

/-! ### setSending -/

@[simp] theorem setSending_resetLow (s : State) (p : PortId) (m : Option SendingMark) :
    (setSending p m s).resetLow = s.resetLow := rfl
@[simp] theorem setSending_timebase (s : State) (p : PortId) (m : Option SendingMark) :
    (setSending p m s).timebase = s.timebase := rfl
@[simp] theorem setSending_grid (s : State) (p : PortId) (m : Option SendingMark) :
    (setSending p m s).grid = s.grid := rfl
@[simp] theorem setSending_ports (s : State) (p : PortId) (m : Option SendingMark) :
    (setSending p m s).ports = s.ports := rfl
@[simp] theorem setSending_table (s : State) (p : PortId) (m : Option SendingMark) :
    (setSending p m s).table = s.table := rfl
@[simp] theorem setSending_engine (s : State) (p : PortId) (m : Option SendingMark) :
    (setSending p m s).engine = { s.engine with sending := s.engine.sending.set p m } := rfl
@[simp] theorem setSending_link (s : State) (p : PortId) (m : Option SendingMark) :
    (setSending p m s).link = s.link := rfl
@[simp] theorem setSending_bus (s : State) (p : PortId) (m : Option SendingMark) :
    (setSending p m s).bus = s.bus := rfl
@[simp] theorem setSending_anc (s : State) (p : PortId) (m : Option SendingMark) :
    (setSending p m s).anc = s.anc := rfl
@[simp] theorem setSending_mail (s : State) (p : PortId) (m : Option SendingMark) :
    (setSending p m s).mail = s.mail := rfl
@[simp] theorem setSending_mgmt (s : State) (p : PortId) (m : Option SendingMark) :
    (setSending p m s).mgmt = s.mgmt := rfl
@[simp] theorem setSending_flagUnit (s : State) (p : PortId) (m : Option SendingMark) :
    (setSending p m s).flagUnit = s.flagUnit := rfl
@[simp] theorem setSending_pending (s : State) (p : PortId) (m : Option SendingMark) :
    (setSending p m s).pending = s.pending := rfl

/-! ### setOutcome -/

@[simp] theorem setOutcome_resetLow (s : State) (p : PortId) (o : TakeOutcome) :
    (setOutcome p o s).resetLow = s.resetLow := rfl
@[simp] theorem setOutcome_timebase (s : State) (p : PortId) (o : TakeOutcome) :
    (setOutcome p o s).timebase = s.timebase := rfl
@[simp] theorem setOutcome_grid (s : State) (p : PortId) (o : TakeOutcome) :
    (setOutcome p o s).grid = s.grid := rfl
@[simp] theorem setOutcome_ports (s : State) (p : PortId) (o : TakeOutcome) :
    (setOutcome p o s).ports = s.ports := rfl
@[simp] theorem setOutcome_table (s : State) (p : PortId) (o : TakeOutcome) :
    (setOutcome p o s).table = s.table := rfl
@[simp] theorem setOutcome_engine (s : State) (p : PortId) (o : TakeOutcome) :
    (setOutcome p o s).engine = { s.engine with outcome := s.engine.outcome.set p o } := rfl
@[simp] theorem setOutcome_link (s : State) (p : PortId) (o : TakeOutcome) :
    (setOutcome p o s).link = s.link := rfl
@[simp] theorem setOutcome_bus (s : State) (p : PortId) (o : TakeOutcome) :
    (setOutcome p o s).bus = s.bus := rfl
@[simp] theorem setOutcome_anc (s : State) (p : PortId) (o : TakeOutcome) :
    (setOutcome p o s).anc = s.anc := rfl
@[simp] theorem setOutcome_mail (s : State) (p : PortId) (o : TakeOutcome) :
    (setOutcome p o s).mail = s.mail := rfl
@[simp] theorem setOutcome_mgmt (s : State) (p : PortId) (o : TakeOutcome) :
    (setOutcome p o s).mgmt = s.mgmt := rfl
@[simp] theorem setOutcome_flagUnit (s : State) (p : PortId) (o : TakeOutcome) :
    (setOutcome p o s).flagUnit = s.flagUnit := rfl
@[simp] theorem setOutcome_pending (s : State) (p : PortId) (o : TakeOutcome) :
    (setOutcome p o s).pending = s.pending := rfl

/-! ### setAssembly -/

@[simp] theorem setAssembly_resetLow (s : State) (a : Assembly) :
    (setAssembly a s).resetLow = s.resetLow := rfl
@[simp] theorem setAssembly_timebase (s : State) (a : Assembly) :
    (setAssembly a s).timebase = s.timebase := rfl
@[simp] theorem setAssembly_grid (s : State) (a : Assembly) :
    (setAssembly a s).grid = s.grid := rfl
@[simp] theorem setAssembly_ports (s : State) (a : Assembly) :
    (setAssembly a s).ports = s.ports := rfl
@[simp] theorem setAssembly_table (s : State) (a : Assembly) :
    (setAssembly a s).table = s.table := rfl
@[simp] theorem setAssembly_engine (s : State) (a : Assembly) :
    (setAssembly a s).engine = s.engine := rfl
@[simp] theorem setAssembly_link (s : State) (a : Assembly) :
    (setAssembly a s).link = { s.link with assembly := a } := rfl
@[simp] theorem setAssembly_bus (s : State) (a : Assembly) :
    (setAssembly a s).bus = s.bus := rfl
@[simp] theorem setAssembly_anc (s : State) (a : Assembly) :
    (setAssembly a s).anc = s.anc := rfl
@[simp] theorem setAssembly_mail (s : State) (a : Assembly) :
    (setAssembly a s).mail = s.mail := rfl
@[simp] theorem setAssembly_mgmt (s : State) (a : Assembly) :
    (setAssembly a s).mgmt = s.mgmt := rfl
@[simp] theorem setAssembly_flagUnit (s : State) (a : Assembly) :
    (setAssembly a s).flagUnit = s.flagUnit := rfl
@[simp] theorem setAssembly_pending (s : State) (a : Assembly) :
    (setAssembly a s).pending = s.pending := rfl

/-! ### setReceiver -/

@[simp] theorem setReceiver_resetLow (s : State) (rx : Receiver) (gap : Option Time) :
    (setReceiver rx gap s).resetLow = s.resetLow := rfl
@[simp] theorem setReceiver_timebase (s : State) (rx : Receiver) (gap : Option Time) :
    (setReceiver rx gap s).timebase = s.timebase := rfl
@[simp] theorem setReceiver_grid (s : State) (rx : Receiver) (gap : Option Time) :
    (setReceiver rx gap s).grid = s.grid := rfl
@[simp] theorem setReceiver_ports (s : State) (rx : Receiver) (gap : Option Time) :
    (setReceiver rx gap s).ports = s.ports := rfl
@[simp] theorem setReceiver_table (s : State) (rx : Receiver) (gap : Option Time) :
    (setReceiver rx gap s).table = s.table := rfl
@[simp] theorem setReceiver_engine (s : State) (rx : Receiver) (gap : Option Time) :
    (setReceiver rx gap s).engine = s.engine := rfl
@[simp] theorem setReceiver_link (s : State) (rx : Receiver) (gap : Option Time) :
    (setReceiver rx gap s).link = s.link := rfl
@[simp] theorem setReceiver_bus (s : State) (rx : Receiver) (gap : Option Time) :
    (setReceiver rx gap s).bus = s.bus := rfl
@[simp] theorem setReceiver_anc (s : State) (rx : Receiver) (gap : Option Time) :
    (setReceiver rx gap s).anc = s.anc := rfl
@[simp] theorem setReceiver_mail (s : State) (rx : Receiver) (gap : Option Time) :
    (setReceiver rx gap s).mail = s.mail := rfl
@[simp] theorem setReceiver_mgmt (s : State) (rx : Receiver) (gap : Option Time) :
    (setReceiver rx gap s).mgmt = { s.mgmt with rx := rx, gapExpiry := gap } := rfl
@[simp] theorem setReceiver_flagUnit (s : State) (rx : Receiver) (gap : Option Time) :
    (setReceiver rx gap s).flagUnit = s.flagUnit := rfl
@[simp] theorem setReceiver_pending (s : State) (rx : Receiver) (gap : Option Time) :
    (setReceiver rx gap s).pending = s.pending := rfl

/-! ### setBusTxn -/

@[simp] theorem setBusTxn_resetLow (s : State) (t : BusTxn) :
    (setBusTxn t s).resetLow = s.resetLow := rfl
@[simp] theorem setBusTxn_timebase (s : State) (t : BusTxn) :
    (setBusTxn t s).timebase = s.timebase := rfl
@[simp] theorem setBusTxn_grid (s : State) (t : BusTxn) :
    (setBusTxn t s).grid = s.grid := rfl
@[simp] theorem setBusTxn_ports (s : State) (t : BusTxn) :
    (setBusTxn t s).ports = s.ports := rfl
@[simp] theorem setBusTxn_table (s : State) (t : BusTxn) :
    (setBusTxn t s).table = s.table := rfl
@[simp] theorem setBusTxn_engine (s : State) (t : BusTxn) :
    (setBusTxn t s).engine = s.engine := rfl
@[simp] theorem setBusTxn_link (s : State) (t : BusTxn) :
    (setBusTxn t s).link = s.link := rfl
@[simp] theorem setBusTxn_bus (s : State) (t : BusTxn) :
    (setBusTxn t s).bus = { s.bus with txn := some t } := rfl
@[simp] theorem setBusTxn_anc (s : State) (t : BusTxn) :
    (setBusTxn t s).anc = s.anc := rfl
@[simp] theorem setBusTxn_mail (s : State) (t : BusTxn) :
    (setBusTxn t s).mail = s.mail := rfl
@[simp] theorem setBusTxn_mgmt (s : State) (t : BusTxn) :
    (setBusTxn t s).mgmt = s.mgmt := rfl
@[simp] theorem setBusTxn_flagUnit (s : State) (t : BusTxn) :
    (setBusTxn t s).flagUnit = s.flagUnit := rfl
@[simp] theorem setBusTxn_pending (s : State) (t : BusTxn) :
    (setBusTxn t s).pending = s.pending := rfl

/-! ### tick -/

@[simp] theorem tick_resetLow (s : State) :
    (tick s).resetLow = s.resetLow := rfl
@[simp] theorem tick_timebase (s : State) :
    (tick s).timebase = s.timebase + 1 := rfl
@[simp] theorem tick_grid (s : State) :
    (tick s).grid = s.grid := rfl
@[simp] theorem tick_ports (s : State) :
    (tick s).ports = s.ports := rfl
@[simp] theorem tick_table (s : State) :
    (tick s).table = s.table := rfl
@[simp] theorem tick_engine (s : State) :
    (tick s).engine = s.engine := rfl
@[simp] theorem tick_link (s : State) :
    (tick s).link = s.link := rfl
@[simp] theorem tick_bus (s : State) :
    (tick s).bus = s.bus := rfl
@[simp] theorem tick_anc (s : State) :
    (tick s).anc = s.anc := rfl
@[simp] theorem tick_mail (s : State) :
    (tick s).mail = s.mail := rfl
@[simp] theorem tick_mgmt (s : State) :
    (tick s).mgmt = { s.mgmt with reply := s.mgmt.reply.map fun r => r.oneCount s.mgmt.rate } := rfl
@[simp] theorem tick_flagUnit (s : State) :
    (tick s).flagUnit = s.flagUnit := rfl
@[simp] theorem tick_pending (s : State) :
    (tick s).pending = s.pending := rfl

/-! ### sendFrameIdle -/

@[simp] theorem sendFrameIdle_resetLow (s : State) :
    (sendFrameIdle s).resetLow = s.resetLow := rfl
@[simp] theorem sendFrameIdle_timebase (s : State) :
    (sendFrameIdle s).timebase = s.timebase := rfl
@[simp] theorem sendFrameIdle_grid (s : State) :
    (sendFrameIdle s).grid = s.grid := rfl
@[simp] theorem sendFrameIdle_ports (s : State) :
    (sendFrameIdle s).ports = s.ports := rfl
@[simp] theorem sendFrameIdle_table (s : State) :
    (sendFrameIdle s).table = s.table := rfl
@[simp] theorem sendFrameIdle_engine (s : State) :
    (sendFrameIdle s).engine = s.engine := rfl
@[simp] theorem sendFrameIdle_link (s : State) :
    (sendFrameIdle s).link = { s.link with cell := none } := rfl
@[simp] theorem sendFrameIdle_bus (s : State) :
    (sendFrameIdle s).bus = s.bus := rfl
@[simp] theorem sendFrameIdle_anc (s : State) :
    (sendFrameIdle s).anc = s.anc := rfl
@[simp] theorem sendFrameIdle_mail (s : State) :
    (sendFrameIdle s).mail = s.mail := rfl
@[simp] theorem sendFrameIdle_mgmt (s : State) :
    (sendFrameIdle s).mgmt = s.mgmt := rfl
@[simp] theorem sendFrameIdle_flagUnit (s : State) :
    (sendFrameIdle s).flagUnit = s.flagUnit := rfl
@[simp] theorem sendFrameIdle_pending (s : State) :
    (sendFrameIdle s).pending = s.pending := rfl

/-! ### evalHold -/

@[simp] theorem evalHold_resetLow (s : State) :
    (evalHold s).resetLow = s.resetLow := rfl
@[simp] theorem evalHold_timebase (s : State) :
    (evalHold s).timebase = s.timebase := rfl
@[simp] theorem evalHold_grid (s : State) :
    (evalHold s).grid = s.grid := rfl
@[simp] theorem evalHold_ports (s : State) :
    (evalHold s).ports = s.ports := rfl
@[simp] theorem evalHold_table (s : State) :
    (evalHold s).table = s.table := rfl
@[simp] theorem evalHold_engine (s : State) :
    (evalHold s).engine = s.engine := rfl
@[simp] theorem evalHold_link (s : State) :
    (evalHold s).link = s.link := rfl
@[simp] theorem evalHold_bus (s : State) :
    (evalHold s).bus = s.bus := rfl
@[simp] theorem evalHold_anc (s : State) :
    (evalHold s).anc = s.anc := rfl
@[simp] theorem evalHold_mail (s : State) :
    (evalHold s).mail = { s.mail with hold := holdAfter s.bus.remoteOutstanding s.mail.inbox.length s.mail.hold } := rfl
@[simp] theorem evalHold_mgmt (s : State) :
    (evalHold s).mgmt = s.mgmt := rfl
@[simp] theorem evalHold_flagUnit (s : State) :
    (evalHold s).flagUnit = s.flagUnit := rfl
@[simp] theorem evalHold_pending (s : State) :
    (evalHold s).pending = s.pending := rfl

/-! ### setFlagIf -/

@[simp] theorem State.setFlagIf_resetLow (s : State) (c : Bool) (f : Flag) :
    (s.setFlagIf c f).resetLow = s.resetLow := by
  cases c <;> rfl
@[simp] theorem State.setFlagIf_timebase (s : State) (c : Bool) (f : Flag) :
    (s.setFlagIf c f).timebase = s.timebase := by
  cases c <;> rfl
@[simp] theorem State.setFlagIf_grid (s : State) (c : Bool) (f : Flag) :
    (s.setFlagIf c f).grid = s.grid := by
  cases c <;> rfl
@[simp] theorem State.setFlagIf_ports (s : State) (c : Bool) (f : Flag) :
    (s.setFlagIf c f).ports = s.ports := by
  cases c <;> rfl
@[simp] theorem State.setFlagIf_table (s : State) (c : Bool) (f : Flag) :
    (s.setFlagIf c f).table = s.table := by
  cases c <;> rfl
@[simp] theorem State.setFlagIf_engine (s : State) (c : Bool) (f : Flag) :
    (s.setFlagIf c f).engine = s.engine := by
  cases c <;> rfl
@[simp] theorem State.setFlagIf_link (s : State) (c : Bool) (f : Flag) :
    (s.setFlagIf c f).link = s.link := by
  cases c <;> rfl
@[simp] theorem State.setFlagIf_bus (s : State) (c : Bool) (f : Flag) :
    (s.setFlagIf c f).bus = s.bus := by
  cases c <;> rfl
@[simp] theorem State.setFlagIf_anc (s : State) (c : Bool) (f : Flag) :
    (s.setFlagIf c f).anc = s.anc := by
  cases c <;> rfl
@[simp] theorem State.setFlagIf_mail (s : State) (c : Bool) (f : Flag) :
    (s.setFlagIf c f).mail = s.mail := by
  cases c <;> rfl
@[simp] theorem State.setFlagIf_mgmt (s : State) (c : Bool) (f : Flag) :
    (s.setFlagIf c f).mgmt = s.mgmt := by
  cases c <;> rfl
@[simp] theorem State.setFlagIf_pending (s : State) (c : Bool) (f : Flag) :
    (s.setFlagIf c f).pending = s.pending := by
  cases c <;> rfl

@[simp] theorem State.setFlagIf_masks (s : State) (c : Bool) (f : Flag) :
    (s.setFlagIf c f).flagUnit.masks = s.flagUnit.masks := by
  cases c <;> rfl

end Sys2Proof.Machine
end

