-- ==== Sys2Proof/Laws/Shared.lean ====
section
/-! SUPPORT. One lemma for each shared operation, saying once everything it can do: what a proof cites in place of unfolding
the operation. -/

namespace Sys2Proof.Machine

/-! ### Commands -/

theorem whenRunning_running (s : State) (f : State → State) (h : s.resetLow = false) :
    whenRunning s f = .next (f s) := by
  simp [whenRunning, h]

theorem whenRunning_low (s : State) (f : State → State) (h : s.resetLow = true) : whenRunning s f = .next s := by
  simp [whenRunning, h]

/-- A command that answers through `whenRunning` does one of two things. -/
theorem whenRunning_cases {s t : State} {f : State → State} (h : whenRunning s f = .next t) :
    (s.resetLow = true ∧ t = s) ∨ (s.resetLow = false ∧ t = f s) := by
  unfold whenRunning at h
  cases hr : s.resetLow <;> simp_all

/-- No command stops the part. -/
theorem exec_next (i : Instr) (s : State) : ∃ t, exec i s = .next t := by
  cases i <;> exact ⟨_, rfl⟩

/-- The command of a request is a complete record of that request reaching the Management Port (R154). -/
theorem request_arrives {i : Instr} {q : Request} (h : i.request? = some q) (s : State) :
    exec i s = requestArrives q s := by
  cases i <;> simp only [Instr.request?, Option.some.injEq, reduceCtorEq] at h <;> subst h <;> rfl

/-! ### Records, dispatch and replies (R154, R155, R159) -/

/-- R154: dispatched, held or discarded. -/
theorem recordComplete_cases (r : ReqRecord) (s : State) :
    (s.mgmt.reply = none ∧ recordComplete r s = dispatch r s)
      ∨ (s.mgmt.reply ≠ none ∧ s.mgmt.holding = none
          ∧ recordComplete r s = { s with mgmt := { s.mgmt with holding := some r } })
      ∨ (s.mgmt.reply ≠ none ∧ s.mgmt.holding ≠ none ∧ recordComplete r s = s.setFlag .mgmtOverrun) := by
  unfold recordComplete
  cases hr : s.mgmt.reply <;> cases hh : s.mgmt.holding <;> simp

/-- R155: a dispatch refuses by a generic check or performs the request. -/
theorem dispatch_cases (r : ReqRecord) (s : State) :
    (∃ o, parseRecord r = .error o ∧ dispatch r s = sendReply r.kind (refused s o))
      ∨ (∃ q, parseRecord r = .ok q ∧ dispatch r s = sendReply r.kind (perform q s)) := by
  unfold dispatch
  cases h : parseRecord r with
  | error o => exact .inl ⟨o, rfl, rfl⟩
  | ok q => exact .inr ⟨q, rfl, rfl⟩

/-! ### Ports -/

/-- A property each port's event keeps is kept by the event of every port. -/
theorem forPorts_induct (P : State → Prop) (f : PortId → State → State) (hf : ∀ p s, P s → P (f p s)) (s : State)
    (h : P s) : P (forPorts f s) := by
  simp only [forPorts, PortId.all, List.foldl]
  exact hf _ _ (hf _ _ (hf _ _ (hf _ _ h)))

/-- What the event of every port leaves as it was, when each port's event leaves it. -/
theorem forPorts_keeps {α : Type} (g : State → α) (f : PortId → State → State) (hf : ∀ p s, g (f p s) = g s) (s : State) :
    g (forPorts f s) = g s := by
  simp only [forPorts, PortId.all, List.foldl, hf]

/-! ### Flags and counters (R160, R165) -/

/-- The flags after one is set: that one, and the others as before. -/
theorem State.hasFlag_setFlag (s : State) (f g : Flag) :
    (s.setFlag f).hasFlag g = (s.hasFlag g || (mark f.number).getMsbD g.number) := by
  simp [State.hasFlag]

theorem mark_getMsbD (j k : Nat) (hj : j < 64) (hk : k < 64) : (mark j).getMsbD k = decide (j = k) := by
  simp only [mark, BitVec.getMsbD_ushiftRight]
  have h : ∀ m, m < 64 → (0x8000000000000000 : BitVec 64).getMsbD m = decide (m = 0) := by decide
  by_cases hjk : j = k
  · subst hjk; simp [hk]
  · by_cases hlt : k < j
    · simp [hlt, hjk]
    · have hd : k - j ≠ 0 := by omega
      have hf := h (k - j) (by omega)
      simp only [hd, decide_false] at hf
      simp only [hlt, hjk, decide_false, hf]
      simp

theorem PortFlag.offset_lt (f : PortFlag) : f.offset < 7 := by cases f <;> decide

theorem Flag.number_lt (f : Flag) : f.number < 64 := by
  cases f with
  | port p g => cases p <;> cases g <;> decide
  | _ => decide

theorem PortFlag.offset_inj {f g : PortFlag} (h : f.offset = g.offset) : f = g := by
  cases f <;> cases g <;> first | rfl | cases h

theorem PortId.toNat_inj {p q : PortId} (h : p.toNat = q.toNat) : p = q := by
  cases p <;> cases q <;> first | rfl | cases h

theorem PortId.toNat_lt (p : PortId) : p.toNat < 4 := by cases p <;> decide

/-- No two flags share a number (R160). -/
theorem Flag.number_inj {f g : Flag} (h : f.number = g.number) : f = g := by
  cases f with
  | port p a =>
    have ha := a.offset_lt
    have hp := PortId.toNat_lt p
    cases g with
    | port q b =>
      have hb := b.offset_lt
      simp only [Flag.number] at h
      rw [PortId.toNat_inj (show p.toNat = q.toNat by omega), PortFlag.offset_inj (show a.offset = b.offset by omega)]
    | _ => simp only [Flag.number] at h; omega
  | _ =>
    cases g with
    | port q b =>
      have hb := b.offset_lt
      have hq := PortId.toNat_lt q
      simp only [Flag.number] at h
      omega
    | _ => first | rfl | cases h

/-- A set flag is set, and every other flag is as it was (R160). -/
theorem State.hasFlag_setFlag_iff (s : State) (f g : Flag) :
    (s.setFlag f).hasFlag g = (s.hasFlag g || decide (f = g)) := by
  rw [State.hasFlag_setFlag, mark_getMsbD _ _ f.number_lt g.number_lt]
  congr 1
  by_cases h : f = g
  · simp [h]
  · have hn : f.number ≠ g.number := fun e => h (Flag.number_inj e)
    simp [h, hn]

/-! ### The board bus (R129, R131) -/

/-- R131: everything an arbitration that grants can do. -/
theorem arbitrate_cases {s t : State} (h : arbitrate s = some t) :
    s.bus.txn = none ∧ s.bus.grantingStopped = false
      ∧ ((∃ x rest, s.bus.localQueue = x :: rest ∧ t = grantLocal x rest s
            ∧ (s.eligibleRemote = none ∨ s.bus.lastServed = .remote))
        ∨ (∃ e rest, s.eligibleRemote = some (e, rest) ∧ t = grantRemote e rest s
            ∧ (s.bus.localQueue = [] ∨ s.bus.lastServed = .toLocal))) := by
  unfold arbitrate at h
  split at h
  · rename_i hc
    simp only [Bool.and_eq_true, Option.isNone_iff_eq_none, Bool.not_eq_true'] at hc
    refine ⟨hc.1, hc.2, ?_⟩
    cases hl : s.bus.localQueue with
    | nil =>
      cases he : s.eligibleRemote with
      | none => simp [hl, he] at h
      | some r => simp [hl, he] at h; exact .inr ⟨r.1, r.2, rfl, h.symm, .inl rfl⟩
    | cons x rest =>
      cases he : s.eligibleRemote with
      | none => simp [hl, he] at h; exact .inl ⟨x, rest, rfl, h.symm, .inl rfl⟩
      | some r =>
        cases hs : s.bus.lastServed with
        | remote => simp [hl, he, hs] at h; exact .inl ⟨x, rest, rfl, h.symm, .inr rfl⟩
        | toLocal => simp [hl, he, hs] at h; exact .inr ⟨r.1, r.2, rfl, h.symm, .inr rfl⟩
  · simp at h

/-- An eligible remote head is the head of its queue, ready, with POWER_ON clear (R130). -/
theorem eligibleRemote_cases {s : State} {e : RemoteEntry} {rest : List RemoteEntry}
    (h : s.eligibleRemote = some (e, rest)) :
    s.bus.remoteQueue = e :: rest ∧ e.ready = true ∧ s.hasFlag .powerOn = false := by
  unfold State.eligibleRemote at h
  cases hq : s.bus.remoteQueue with
  | nil => simp [hq] at h
  | cons x xs =>
    simp only [hq] at h
    split at h
    · rename_i hc
      simp only [Bool.and_eq_true, Bool.not_eq_true'] at hc
      simp only [Option.some.injEq, Prod.mk.injEq] at h
      obtain ⟨rfl, rfl⟩ := h
      exact ⟨rfl, hc.1, hc.2⟩
    · simp at h

/-- One act at the bus: the VOID head is retired (R129), or one head is granted (R131). -/
theorem busAct_cases {s t : State} (h : busAct s = some t) :
    (∃ e rest, s.bus.remoteQueue = e :: rest ∧ e.retirable = true ∧ t = retireHead e rest s) ∨ arbitrate s = some t := by
  unfold busAct at h
  cases hq : s.bus.remoteQueue with
  | nil => simp only [hq] at h; exact .inr h
  | cons e rest =>
    simp only [hq] at h
    split at h
    · simp only [Option.some.injEq] at h; exact .inl ⟨e, rest, rfl, ‹_›, h.symm⟩
    · exact .inr h

/-- A property every act keeps is kept by all the acts that are due. -/
theorem settleBus_induct (P : State → Prop) (hact : ∀ s t, busAct s = some t → P s → P t) (s : State) (h : P s) :
    P (settleBus s) := by
  have hfor : ∀ k s, P s → P (settleFor k s) := by
    intro k
    induction k with
    | zero => intro s hs; exact hs
    | succ k ih =>
      intro s hs
      simp only [settleFor]
      cases ha : busAct s with
      | none => exact hs
      | some t => exact ih t (hact s t ha hs)
  exact hfor _ s h

/-- What every act leaves as it was is left by all of them. -/
theorem settleBus_keeps {α : Type} (g : State → α) (hact : ∀ s t, busAct s = some t → g t = g s) (s : State) :
    g (settleBus s) = g s :=
  settleBus_induct (fun t => g t = g s) (fun a b hab ha => (hact a b hab).trans ha) s rfl

/-- With no act due nothing happens. -/
theorem settleBus_none {s : State} (h : busAct s = none) : settleBus s = s := by
  unfold settleBus
  cases s.bus.localQueue.length + s.bus.remoteQueue.length with
  | zero => rfl
  | succ k => simp [settleFor, h]

/-- Adding a reply leaves the forward queues as they were. -/
theorem Bus.addReply_queues (b : Bus) (r : BusReply) :
    (b.addReply r).localQueue = b.localQueue ∧ (b.addReply r).remoteQueue = b.remoteQueue := by
  unfold Bus.addReply
  split <;> exact ⟨rfl, rfl⟩

/-- The remote head's grant takes it from its queue and leaves the local queue as it was. -/
theorem grantRemote_queues (e : RemoteEntry) (rest : List RemoteEntry) (s : State) :
    (grantRemote e rest s).bus.localQueue = s.bus.localQueue ∧ (grantRemote e rest s).bus.remoteQueue = rest := by
  by_cases hw : e.txn.isWrite = true
  · by_cases hg : s.bus.gateOpen = true
    · simp only [grantRemote, hw, hg, if_true]
      exact ⟨rfl, rfl⟩
    · simp only [grantRemote, hw, hg, if_true]
      exact Bus.addReply_queues { s.bus with remoteQueue := rest, lastServed := .remote } (e.txn.reply .gated 0 [])
  · simp only [grantRemote, hw]
    exact ⟨rfl, rfl⟩

/-- Every act takes one entry from a queue. -/
theorem busAct_queues {s t : State} (h : busAct s = some t) :
    t.bus.localQueue.length + t.bus.remoteQueue.length + 1 = s.bus.localQueue.length + s.bus.remoteQueue.length := by
  rcases busAct_cases h with ⟨e, rest, hq, -, rfl⟩ | h
  · have h1 := Bus.addReply_queues { s.bus with remoteQueue := rest } (e.txn.reply .check 0 [])
    show (Bus.addReply _ _).localQueue.length + (Bus.addReply _ _).remoteQueue.length + 1 = _
    rw [h1.1, h1.2, hq, List.length_cons]
    rfl
  · rcases arbitrate_cases h with ⟨-, -, ⟨x, rest, hq, rfl, -⟩ | ⟨e, rest, he, rfl, -⟩⟩
    · show rest.length + s.bus.remoteQueue.length + 1 = _
      rw [hq, List.length_cons]
      omega
    · rw [(grantRemote_queues e rest s).1, (grantRemote_queues e rest s).2, (eligibleRemote_cases he).1]
      exact Nat.add_assoc _ _ _

/-- What is due at the bus is one act, and then what is due after it. -/
theorem settleBus_act {s t : State} (h : busAct s = some t) : settleBus s = settleBus t := by
  unfold settleBus
  rw [← busAct_queues h]
  simp only [settleFor, h]

/-! ### The reply in progress (R151, R156) -/

/-- One count of the timebase moves the reply on within its record and leaves the record and its mark as they were. -/
theorem ReplyOut.oneCount_keeps (r : ReplyOut) (rate : LineRate) :
    (r.oneCount rate).record = r.record ∧ (r.oneCount rate).thenReset = r.thenReset
      ∧ r.sent ≤ (r.oneCount rate).sent
      ∧ (r.sent ≤ r.record.length → (r.oneCount rate).sent ≤ r.record.length) := by
  unfold ReplyOut.oneCount
  split
  · split
    · exact ⟨rfl, rfl, Nat.le_refl _, fun h => h⟩
    · exact ⟨rfl, rfl, Nat.le_succ _, fun _ => by show r.sent + 1 ≤ _; omega⟩
  · exact ⟨rfl, rfl, Nat.le_refl _, fun h => h⟩

/-! ### Record ends and the link (R119, R138) -/

/-- The grant of the remote head leaves the link as it was. -/
theorem grantRemote_link (e : RemoteEntry) (rest : List RemoteEntry) (s : State) : (grantRemote e rest s).link = s.link := by
  by_cases hw : e.txn.isWrite = true
  · by_cases hg : s.bus.gateOpen = true
    · simp only [grantRemote, hw, hg, if_true]; rfl
    · simp only [grantRemote, hw, hg, if_true]; rfl
  · simp only [grantRemote, hw]; rfl

/-- An act at the bus leaves the link as it was. -/
theorem busAct_link {s t : State} (h : busAct s = some t) : t.link = s.link := by
  rcases busAct_cases h with ⟨e, rest, -, -, rfl⟩ | h
  · rfl
  · rcases arbitrate_cases h with ⟨-, -, ⟨x, rest, -, rfl, -⟩ | ⟨e, rest, -, rfl, -⟩⟩
    · rfl
    · exact grantRemote_link e rest s

/-- What is due at the bus leaves the link as it was. -/
theorem settleBus_link (s : State) : (settleBus s).link = s.link := settleBus_keeps State.link (fun _ _ => busAct_link) s

/-- R118, R128: a byte handed on to the Board Bus Controller leaves the link as it was. -/
theorem feedRemote_link (inBody : Bool) (b : Byte) (s : State) : (feedRemote inBody b s).link = s.link := by
  unfold feedRemote
  split
  · rw [settleBus_link]; rfl
  · split
    · split
      · simp only [feedBusTxn]
        split
        · unfold sendOrAwait
          split <;> rfl
        · rfl
      · rfl
    · rfl

/-- R128: everything a byte handed on can do to an entry: nothing, a byte more of the head, the head filled and checked, or a
body byte more of the words. -/
theorem RemoteEntry.feed_cases (e : RemoteEntry) (inBody : Bool) (b : Byte) :
    e.feed inBody b = e
      ∨ (e.state = .receiving ∧ e.head.length < 7 ∧ e.feed inBody b = { e with head := e.head ++ [b] })
      ∨ (e.state = .receiving ∧ e.head.length = 7
          ∧ e.feed inBody b = { e with
              head := e.head ++ [b]
              txn := txnOfHead (e.head ++ [b])
              state := if RemoteEntry.headBad e.bodyLen (txnOfHead (e.head ++ [b])) then .void else .receiving })
      ∨ (e.state = .receiving ∧ 8 ≤ e.head.length ∧ inBody = true
          ∧ e.feed inBody b = { e with txn := (takeWordByte e.txn e.half b).1, half := (takeWordByte e.txn e.half b).2 }) := by
  unfold RemoteEntry.feed
  cases hs : e.state with
  | ended => exact .inl rfl
  | void => exact .inl rfl
  | receiving =>
    by_cases h8 : e.head.length < 8
    · by_cases h7 : e.head.length = 7
      · refine .inr (.inr (.inl ⟨rfl, h7, ?_⟩))
        simp [h7]
      · refine .inr (.inl ⟨rfl, by omega, ?_⟩)
        simp [h8, h7]
    · cases inBody with
      | false => simp [h8]
      | true => exact .inr (.inr (.inr ⟨rfl, by omega, rfl, by simp [h8]⟩))

/-- The end of a BOARD-FORWARD record leaves the link as it was. -/
theorem reportRecordEnd_link (r : RecordEnd) (s : State) : (reportRecordEnd r s).link = s.link := by
  unfold reportRecordEnd
  split
  · cases r <;> rfl
  · unfold remoteRecordEnded
    split
    · rw [settleBus_link]
      split <;> rfl
    · split
      · split <;> rfl
      · rfl

/-- R119: everything the abandoning of a record can do: nothing but to the assembly, a mail dropped, or a BOARD-FORWARD record
reported. -/
theorem abandonRecord_cases (s : State) :
    (s.link.assembly = .idle ∧ abandonRecord s = s)
      ∨ abandonRecord s = setAssembly .idle s
      ∨ abandonRecord s = dropMail (setAssembly .idle s)
      ∨ abandonRecord s = reportRecordEnd .abandoned (setAssembly .idle s) := by
  unfold abandonRecord
  split
  · exact .inl ⟨‹_›, rfl⟩
  · exact .inr (.inl rfl)
  · simp only
    split
    · split
      · exact .inr (.inr (.inr rfl))
      · exact .inr (.inr (.inl rfl))
      · exact .inr (.inl rfl)
    · exact .inr (.inl rfl)

/-- R119: after a record is abandoned the assembly is IDLE, and the rest of the link is as it was. -/
theorem abandonRecord_link (s : State) : (abandonRecord s).link = { s.link with assembly := .idle } := by
  rcases abandonRecord_cases s with ⟨h, e⟩ | e | e | e
  · rw [e, ← h]
  · rw [e]; rfl
  · rw [e]; rfl
  · rw [e, reportRecordEnd_link]; rfl

/-! ### HOLD (R150) -/

/-- HOLD is raised at 6 or more, lowered at 2 or less of both, and kept between. -/
theorem holdAfter_cases (remote inbox : Nat) (held : Bool) :
    (6 ≤ remote ∨ 6 ≤ inbox → holdAfter remote inbox held = true)
      ∧ (remote ≤ 2 ∧ inbox ≤ 2 → holdAfter remote inbox held = false)
      ∧ (remote < 6 → inbox < 6 → (2 < remote ∨ 2 < inbox) → holdAfter remote inbox held = held) := by
  unfold holdAfter
  refine ⟨fun h => by simp [h], fun h => ?_, fun h1 h2 h3 => ?_⟩
  · rw [if_neg (by omega), if_pos h]
  · rw [if_neg (by omega), if_neg (by omega)]

end Sys2Proof.Machine
end

