-- ==== Sys2Proof/Tests/Slice0.lean ====
section
/-! SUPPORT. Tests. Expected values come from the specification's worked sequences and tables, or from a calculation by hand
of the check of section 5.4 outside this model; each test names its source. The second half holds, for every statement with
hypotheses, states and operands that meet them. -/

namespace Sys2Proof.Tests

open Sys2Proof Sys2Proof.Machine

/-! ### WellFormed refuses what no wire can carry -/

theorem test_segment_payload_of_23_refused : (Instr.segment 0xC0 5 (List.replicate 23 0)).wellFormed = false := by decide
theorem test_unknown_kind_of_the_catalogue_refused : (Instr.unknownKind 0x03 []).wellFormed = false := by decide
theorem test_unknown_kind_body_of_513_refused : (Instr.unknownKind 0x7F (List.replicate 513 0)).wellFormed = false := by
  decide +kernel
theorem test_clear_flags_of_256_refused : (Instr.clearFlags (List.replicate 256 0)).wellFormed = false := by decide +kernel
theorem test_stage_slots_of_170_refused : (Instr.stageSlots 0 1 (List.replicate 170 ⟨0, 1, 0⟩)).wellFormed = false := by
  decide +kernel
theorem test_forward_write_words_short_refused : (Instr.forward ⟨0, 0, 0, 0, 2, [7]⟩).wellFormed = false := by decide
theorem test_forward_write_of_254_refused :
    (Instr.forward ⟨0, 0, 0, 0, 254, List.replicate 254 0⟩).wellFormed = false := by decide +kernel
theorem test_forward_read_with_words_refused : (Instr.forward ⟨0, 0, 1, 0, 1, [7]⟩).wellFormed = false := by decide
theorem test_anc_load_of_511_refused : (Instr.ancLoad 0 (List.replicate 511 0)).wellFormed = false := by decide +kernel
theorem test_mail_send_of_65_refused : (Instr.mailSend (List.replicate 65 0)).wellFormed = false := by decide
theorem test_mail_send_of_64_taken : (Instr.mailSend (List.replicate 64 0)).wellFormed = true := by decide

/-! ### Wire forms (sections 5.4, 10.7); the checks are calculated by hand -/

theorem test_check_of_digits : checkOf [0x31, 0x32, 0x33, 0x34, 0x35, 0x36, 0x37, 0x38, 0x39] = 0x29B1 := by decide +kernel

theorem test_identify_record : requestBytes Request.identify.record = [0xC3, 0x01, 0x00, 0x00, 0x9B, 0x88] := by
  decide +kernel

theorem test_set_trim_record :
    requestBytes (Request.setTrim 2 0xFE00).record = [0xC3, 0x1A, 0x00, 0x03, 0x02, 0xFE, 0x00, 0x06, 0xAD] := by
  decide +kernel

theorem test_set_trim_parsed : parseRecord ⟨0x1A, [0x02, 0xFE, 0x00], true⟩ = .ok (.setTrim 2 0xFE00) := by rfl

theorem test_short_body_is_length : parseRecord ⟨0x1A, [0x02, 0xFE], true⟩ = .error .length := by rfl

/-- Section 10.4, R147: a MAIL-SEND of 64 bytes fits its kind, one of 65 does not, and a record of it is answered LENGTH. -/
theorem test_mail_of_65_is_length :
    lengthFits 0x3A (List.replicate 64 0) = true ∧ lengthFits 0x3A (List.replicate 65 0) = false
    ∧ parseRecord ⟨0x3A, List.replicate 65 0, true⟩ = .error .length := ⟨by decide, by decide, by rfl⟩

/-- Section 10.4: a FORWARD of a WRITE of two words has 10 bytes, of a READ of two words 6. -/
theorem test_forward_lengths :
    lengthFits 0x30 [1, 2, 0, 0, 16, 2, 0, 7, 0, 8] = true ∧ lengthFits 0x30 [1, 2, 0, 0, 16, 2] = false
    ∧ lengthFits 0x30 [1, 2, 1, 0, 16, 2] = true := by decide +kernel

theorem test_offer_block : uplinkRow ([0x02, 0x04] ++ List.replicate 28 0 ++ [0xCB, 0x80]) = .offer 4 := by decide +kernel

theorem test_start_block : uplinkRow ([0x03, 0x04] ++ List.replicate 28 0 ++ [0xC2, 0x9F]) = .start 4 := by decide +kernel

theorem test_frame_marker_block :
    uplinkRow ([0x01, 0x01, 0x0A, 0x50, 0x04, 0x65] ++ List.replicate 24 0 ++ [0x6B, 0x6A]) = .marker 1 2640 1125 := by
  decide +kernel

theorem test_health_block : uplinkRow ([0x04, 0x00, 0x09] ++ List.replicate 27 0 ++ [0x1E, 0x2C]) = .health 9 := by
  decide +kernel

theorem test_idle_block : uplinkRow (0x06 :: List.replicate 29 0 ++ [0x1C, 0x07]) = .uplinkIdle := by decide +kernel

theorem test_bad_check_block : uplinkRow (0x06 :: List.replicate 29 0 ++ [0x1C, 0x06]) = .failedBlock := by decide +kernel

/-- Tag 2, line 0: offsets 0 and 1 are 0x80 and 0x00. -/
theorem test_call_group : callGroup 2 0 =
    [.startDelim, .data 0x80, .data 0x00, .data 0x06, .data 0x97, .endDelim] := by decide +kernel

/-- Board id 5, tag 2, line 1079 (0x437), 75 cells. -/
theorem test_packet_header : packetHeader 0xB0 0x04 0x37 75 = ⟨5, 2, 1079, 75⟩ := by decide

/-! ### Worked values of the chapters -/

/-- Section 1.10: a header at 500 for a line started at 4,294,966,000; and one 70,000 counts after its line start. -/
theorem test_capture_across_a_wrap : arrivalCapture 500 4294966000 = 1796 := by decide
theorem test_capture_saturates : arrivalCapture 70000 0 = 65535 := by decide

/-- Section 1.10, window of R4: 5 early and late fit; 2,625 counts early does not. -/
theorem test_fits : [1002645, 1002632, 1002648].map (fitsPrediction · 1002640) = [true, true, true] := by decide
theorem test_does_not_fit : [1002631, 1002649, 1000015].map (fitsPrediction · 1002640) = [false, false, false] := by decide

/-- R75's table. -/
theorem test_capacity_at_1000 : (List.range 6).map (capacityOf 1000) = [9, 21, 37, 56, 76, 99] := by decide
theorem test_capacity_at_8191 : (List.range 6).map (capacityOf 8191) = [93, 189, 317, 477, 637, 829] := by decide

/-- Section 5.9's bank. -/
def plan : List SlotEntry :=
  [⟨.port .p0, 75, 0⟩, ⟨.port .p1, 75, 0⟩, ⟨.port .p2, 75, 0⟩, ⟨.anc, 8, 2⟩, ⟨.ret, 4, 1⟩, ⟨.port .p3, 30, 3⟩]

/-- Section 5.9: the cells of the entries at a class. -/
def cellsAt (cls : Nat) : List Nat :=
  plan.zipIdx.map fun e => (Engine.reset.atFrameStart 2640 (some cls) plan).entryCells e.2 e.1.quota

theorem test_plan_at_class_5 : cellsAt 5 = [75, 75, 75, 8, 4, 0] := by decide
theorem test_plan_at_class_2 : cellsAt 2 = [75, 26, 0, 0, 0, 0] := by decide

/-- Section 4.9: the sums 967 and 48 of intervals 1 and 9. -/
theorem test_interval_means : [967, 48, -17].map intervalMean = [60, 3, -1] := by decide
theorem test_interval_steps : [60, 3, 1, -3].map (servoStep 8) = [8, 1, 0, -1] := by decide

/-- Section 6.4.1: 60 line cells across two slots of 40, and 30 cells. -/
theorem test_laid_cells : [laidCells 40 60 0, laidCells 40 60 40, laidCells 40 30 0, laidCells 40 30 30] = [40, 20, 30, 0] := by
  decide
theorem test_laid_statuses :
    [laidStatus 40 40 false, laidStatus 40 20 false, laidStatus 40 0 false, laidStatus 40 40 true] =
      [.line, .part, .spare, .damaged] := by decide

/-- Section 9.4: the cells of return records with bodies of 11, 40 and 64 bytes. -/
theorem test_record_cells :
    [11, 40, 64].map (fun k => cellsOf (returnRecord 2 (List.replicate k 0))) = [1, 2, 3] := by decide +kernel

/-- R122: 100 µs at 148.5 counts each. -/
theorem test_wait_expiry : State.reset.waitExpiry = 14850 := by decide

/-- Section 5.5: modular order. -/
theorem test_before_wraps : [before 0xFFFFFFFF 0, before 0 0, before 5 4, before 0 0x7FFFFFFF, before 0 0x80000000] =
    [true, false, false, true, false] := by decide

/-- R150 and section 9: HOLD at 6, kept between, lowered at 2. -/
theorem test_hold : [holdAfter 6 0 false, holdAfter 3 5 true, holdAfter 3 5 false, holdAfter 2 2 true] =
    [true, true, false, false] := by decide

/-! ### One command each, from small states -/

/-- The state an outcome leaves, if it leaves one. -/
def nextOf (o : Host.Outcome State Fault Refusal) : State :=
  match o with
  | .next s => s
  | .fault _ => State.reset
  | .refused _ => State.reset

/-- The reset state with a timebase and a grid. -/
def gridAt (st : GridState) (n missRun lockRun : Nat) (frameMiss : Bool) (t : Nat) : State :=
  { State.reset with
    timebase := BitVec.ofNat 32 t
    grid := { Grid.reset with
      state := st
      n := n
      missRun := missRun
      lockRun := lockRun
      frameMiss := frameMiss } }

/-- Section 1.10: a marker 5 counts late starts the line there. -/
theorem test_line_marker_fits :
    (let t := nextOf (exec (.marker 0 0 0) (gridAt .locked 100 0 0 false 2645))
     (t.grid.n, t.grid.refTime, t.grid.prediction, t.grid.missRun)) = (101, 2645, 5285, 0) := by decide +kernel

/-- Section 1.10: the window's end is a miss, and the line starts on the prediction. -/
theorem test_flywheel :
    (let t := nextOf (exec .fitWindowExpiry (gridAt .locked 100 0 0 false 2648))
     (t.grid.n, t.grid.refTime, t.grid.missRun, t.flagUnit.link.markerMisses)) = (101, 2640, 1, 1) := by decide +kernel

/-- R10: the eighth miss in LOCKED. -/
theorem test_eighth_miss :
    (let t := nextOf (exec .fitWindowExpiry (gridAt .locked 100 7 0 false 2648))
     (t.grid.state, t.hasFlag .markerLost)) = (GridState.holdover, true) := by decide +kernel

/-- R1: the tick on an empty queue. -/
theorem test_tick : (nextOf (step State.reset)).timebase = 1 := by decide +kernel

/-- R163, R160: after reset only POWER_ON is set, and the reply summary has ATTN and POWER_ON (0x8010). -/
theorem test_read_status_reply :
    ((nextOf (exec .readStatus State.reset)).mgmt.reply.map fun r => r.record.take 15) =
      some [0x3C, 0x02, 0x00, 0x80, 0x10, 0x00, 0x10, 0x80, 0, 0, 0, 0, 0, 0, 0] := by decide +kernel

/-- R161: POWER_ON masked leaves ATTN inactive; a waiting inbox makes it active, unless condition 57 is masked. -/
theorem test_attn_follows_the_masks :
    ([mark 0, mark 0 ||| mark 57].flatMap fun m => [[], [[1]]].map fun inbox =>
      State.attn { State.reset with
        flagUnit := { FlagUnit.reset with masks := m }
        mail := { Mailboxes.reset with inbox := inbox } }) = [false, true, false, false] := by decide +kernel

/-- R162, section 10.7: LOCKED, UP, SINGLE, HOLD raised, a commit pending, an inbox record, DAMAGED of port 3 set, POWER_ON
clear, a cut and no shed set: 1110 1001 1010 0110. -/
theorem test_summary_bits :
    State.summary { State.reset with
      flagUnit := { FlagUnit.reset with flags := mark 29 }
      grid := { Grid.reset with state := .locked }
      link := { Link.reset with state := .up }
      engine := { Engine.reset with cut := some ⟨1, 2⟩ }
      table := { WeaveTable.reset with commitPending := true }
      bus := { Bus.reset with gate := .single }
      mail := { Mailboxes.reset with inbox := [[1]], hold := true } } = 0xE9A6 := by decide +kernel

/-- Section 5.8: no port can be enabled before a plan is in force: NOFIT (0x09). -/
theorem test_enable_before_a_plan :
    ((nextOf (exec (.setPort 0 ⟨1, 0, 75, 150, 0, 1, 0, 400, 0, 8, 32⟩) State.reset)).mgmt.reply.bind fun r => r.record[2]?) =
      some 0x09 := by decide +kernel

/-- R118, R128, R129: of a body of 6 or 7 bytes the check bytes complete the transaction head, the body length makes the entry
VOID, and it is answered CHECK with the fields as received; the checks C673 and 9F68 are calculated by hand. -/
theorem test_check_bytes_complete_the_head :
    ([([9, 1, 1, 0, 0, 0], 0xC6, 0x73), ([9, 1, 1, 0, 0, 0, 16], 0x9F, 0x68)].map fun (x : List Byte × Byte × Byte) =>
      let record := [0x01, 0x00, byteOf x.1.length] ++ x.1 ++ [x.2.1, x.2.2]
      let t := nextOf (exec (.segment 0xC0 (byteOf record.length) (padTo 24 record)) State.reset)
      (t.bus.remoteQueue.length, t.bus.remoteReplies, t.hasFlag .remoteCheck)) =
    [(0, [⟨.remote, 9, 1, 1, .check, 0, 0x00C6, []⟩], true), (0, [⟨.remote, 9, 1, 1, .check, 0, 0x0010, []⟩], true)] := by
  decide +kernel

/-- R129: a body of 5 bytes leaves the head one byte short: the entry is removed with no reply; the check DC14 is calculated by
hand. -/
theorem test_short_head_is_removed :
    (let t := nextOf (exec (.segment 0xC0 10 (padTo 24 [0x01, 0x00, 5, 9, 1, 1, 0, 0, 0xDC, 0x14])) State.reset)
     (t.bus.remoteQueue, t.bus.remoteReplies, t.hasFlag .remoteCheck)) = ([], [], true) := by decide +kernel

/-- Section 7.8: OFFER(5) under ceiling 3 accepts class 3. -/
theorem test_offer_above_the_ceiling :
    (nextOf (exec (.offer 5) { State.reset with link := { Link.reset with ceiling := 3 } })).link.answer = .accept 3 := by
  decide +kernel

/-- R158: the part code and the revision code of an IDENTIFY reply. -/
theorem test_identify_reply :
    ((nextOf (exec .identify State.reset)).mgmt.reply.map fun r => (r.record.drop 7).take 3) = some [0x04, 0x18, 0x01] := by
  rfl

/-! ### Witnesses: states and operands that meet each statement's hypotheses -/

/-- The reset state at a timebase. -/
def at_ (t : Nat) : State := { State.reset with timebase := BitVec.ofNat 32 t }

/-- The reset state with a port 0. -/
def withP0 (q : Port) : State := { State.reset with ports := { State.reset.ports with p0 := q } }

/-- The reset state with a link, a bus, mailboxes or a management port. -/
def withLink (k : Link) : State := { State.reset with link := k }
def withBus (b : Bus) : State := { State.reset with bus := b }
def withMail (m : Mailboxes) : State := { State.reset with mail := m }
def withMgmt (m : MgmtPort) : State := { State.reset with mgmt := m }

/-- An enabled port on an UP lane in a reception state. -/
def upPort (rx : Reception) : Port :=
  { Port.reset .p0 with
    settings := { Settings.reset .p0 with enabled := true }
    lane := { Lane.reset with signal := true, state := .up, rx := rx } }

/-- An entry for line `l` under tag 1. -/
def entryOf (l : Nat) : CallEntry := ⟨1, l, 9, 0⟩

/-- A port of 64-cell lines with a resume mark, a withhold state and `k` outstanding calls. -/
def callingPort (w : WithholdState) (resume k : Nat) : Port :=
  { upPort .waiting with
    settings := { (upPort .waiting).settings with lineLen := 64, resume := resume }
    withhold := w
    callList := List.replicate k (entryOf 3)
    store := { Store.reset with reservedCells := k * 64, reservedDescs := k } }

/-- A port storing a packet of 2 cells, one byte in, with one line more called. -/
def storingPort (d : Descriptor) (k : Packet) : Port :=
  { upPort (.storing k) with
    settings := { (upPort .waiting).settings with lineLen := 2, resume := 2 }
    callList := [entryOf 4]
    store := ⟨[(0, 7)], [d], 2, 1⟩
    servo := ⟨-8, 60, 1, 60, .drifting⟩ }

/-- A FILLING descriptor of two cells. -/
def filling2 : Descriptor := ⟨1, 3, 8, 2, .filling, none, some 40, false, [0, 1]⟩

/-- The packet of that descriptor with `n` bytes in. -/
def packet2 (n : Nat) : Packet := ⟨2, n, 5, 5, false, 0⟩

theorem storing_keeps_law : (storingPort filling2 (packet2 1)).KeepsStoreLaw := by
  constructor
  · constructor <;> decide
  all_goals decide

theorem storing_owned : (storingPort filling2 (packet2 1)).store.CellsOwned := by
  constructor <;> decide

theorem storing_one : (storingPort filling2 (packet2 1)).OneAtATime := by
  constructor
  · decide
  · decide
  · exact fun _ => ⟨packet2 1, rfl⟩
  · intro h; exact absurd rfl h

theorem reset_port_keeps_law (p : PortId) : (Port.reset p).KeepsStoreLaw := by
  cases p <;> constructor <;> first | decide | (constructor <;> decide)

/-- A busy state for the port invariants. -/
def busyPorts : State := { withP0 (storingPort filling2 (packet2 1)) with pending := [.laneSymbol .p0 .endDelim] }

theorem witness_EmptyQueueStep :
    (State.reset.pending = [] ∧ State.reset.resetLow = false ∧ dueEvent (at_ 2640) = some .predictionLineStart)
    ∧ ({ State.reset with resetLow := true }.pending = [] ∧ { State.reset with resetLow := true }.resetLow = true)
    ∧ (∀ p d, State.reset.grid.due.get p = some d → d.time ≠ State.reset.timebase)
    ∧ State.reset.mgmt.gapExpiry ≠ some State.reset.timebase
    ∧ (∀ r, State.reset.mgmt.reply = some r → r.sent < r.record.length)
    ∧ (∀ t, State.reset.bus.txn = some t → t.expiry ≠ some State.reset.timebase)
    ∧ State.reset.link.trainingExpiry ≠ some State.reset.timebase
    ∧ (State.reset.link.silenceExpiry = some State.reset.timebase → State.reset.link.state = .silent)
    ∧ (State.reset.grid.state = .free ∨ State.reset.grid.state = .holdover →
        State.reset.timebase ≠ State.reset.grid.prediction)
    ∧ (State.reset.grid.state = .locking ∨ State.reset.grid.state = .locked →
        State.reset.timebase ≠ State.reset.grid.prediction + 8) := by
  refine ⟨by decide, by decide, ?_, by decide, ?_, ?_, by decide, by decide, by decide, by decide⟩
  · intro p d h; cases p <;> cases h
  · intro r h; cases h
  · intro t h; cases h

/-- A state at count 2640 with the timed conditions met that are asked for. -/
def allDue (call2 gap sent wait training silence : Bool) (st : GridState) : State :=
  let waiting : BusTxn := ⟨⟨.toLocal, 1, 2, 0, 0, 0, 16, 1, [5]⟩, .answer, 1, false, [], none, .passed, some 2640⟩
  { State.reset with
    timebase := 2640
    grid := { Grid.reset with
      state := st
      prediction := if st = .free then 2640 else 2632
      due := if call2 then { Grid.reset.due with p2 := some ⟨2640, 1, 0, 0, 0⟩ } else Grid.reset.due }
    mgmt := { MgmtPort.reset with
      gapExpiry := if gap then some 2640 else none
      reply := if sent then some ⟨[1], 1, 0, false⟩ else none }
    bus := { Bus.reset with txn := if wait then some waiting else none }
    link := { Link.reset with
      state := .up
      trainingExpiry := if training then some 2640 else none
      silenceExpiry := if silence then some 2640 else none } }

/-- Every timed condition met at once, one dropped from the front at each state: the order of assumption log 10. -/
theorem witness_EmptyQueueStep_due :
    [allDue true true true true true true .locked, allDue false true true true true true .locked,
      allDue false false true true true true .locked, allDue false false false true true true .locked,
      allDue false false false false true true .locked, allDue false false false false false true .locked,
      allDue false false false false false false .free, allDue false false false false false false .locked].map
        (fun s => (s.pending, s.resetLow, dueEvent s)) =
      [([], false, some (.callDue .p2)), ([], false, some .gapExpiry), ([], false, some .replyEnd),
        ([], false, some .answerTimeout), ([], false, some .trainingExpiry), ([], false, some .silenceExpiry),
        ([], false, some .predictionLineStart), ([], false, some .fitWindowExpiry)]
    ∧ (∃ d, (allDue true true true true true true .locked).grid.due.get .p2 = some d ∧ d.time = 2640)
    ∧ (∀ q : PortId, q.toNat < 2 → ¬∃ d, (allDue true true true true true true .locked).grid.due.get q = some d ∧ d.time = 2640)
    ∧ (¬∃ p d, (allDue false true true true true true .locked).grid.due.get p = some d ∧ d.time = 2640) := by
  refine ⟨by decide, ⟨_, rfl, rfl⟩, ?_, ?_⟩
  · rintro q hq ⟨d, h, -⟩
    cases q <;> cases h
    exact absurd hq (by decide)
  · rintro ⟨p, d, h, -⟩
    cases p <;> cases h

/-- Two bytes of a reply still to go at 3,000,000 baud: ten bits are 495 counts, and the 495th ends the byte. -/
theorem witness_EmptyQueueStep_reply :
    (let s := withMgmt { MgmtPort.reset with rate := .baud3000000, reply := some ⟨[1, 2], 0, 494 * 3000000, false⟩ }
     s.mgmt.reply = some ⟨[1, 2], 0, 494 * 3000000, false⟩ ∧ 0 < [(1 : Byte), 2].length
      ∧ ¬(494 * 3000000 + 3000000 < 1485000000) ∧ 493 * 3000000 + 3000000 < 1485000000
      ∧ (nextOf (step s)).mgmt.reply = some ⟨[1, 2], 1, 0, false⟩) := by decide +kernel

theorem witness_OnlyResetsWriteTheTimebase :
    (∃ t, exec .uplinkIdle State.reset = .next t) ∧ (∀ r b, Instr.uplinkIdle ≠ .powerOn r b)
    ∧ Instr.uplinkIdle ≠ .replyEnd := ⟨⟨_, rfl⟩, fun _ _ h => (by cases h), by decide⟩

theorem witness_HeldLowTakesNothing :
    { State.reset with resetLow := true }.resetLow = true ∧ (∀ r b, Instr.identify ≠ .powerOn r b)
    ∧ (∀ p, Instr.identify ≠ .laneSignalPresent p) ∧ ∀ p, Instr.identify ≠ .laneSignalLost p :=
  ⟨rfl, fun _ _ h => (by cases h), fun _ h => (by cases h), fun _ h => (by cases h)⟩

/-- R13: on a line that is no image line (line 1080 to 1124 of 1080) a flywheel and a fitting line marker leave the phases. -/
theorem witness_line_off_the_image :
    (let t := nextOf (exec .fitWindowExpiry (gridAt .locked 1100 0 0 false 2648))
     t.grid.imageLines ≤ t.grid.n)
    ∧ (let t := nextOf (exec (.marker 0 0 0) (gridAt .locked 1100 0 0 false 2640))
       t.grid.imageLines ≤ t.grid.n ∧ t.grid.n = 1101) := by decide +kernel

/-- FREE within a frame, FREE and HOLDOVER at its end, and the line before the first blank one. -/
theorem witness_PredictionStartsLine :
    (∀ s ∈ [gridAt .free 0 0 0 false 2640, gridAt .free 1124 0 0 false 2640, gridAt .holdover 1124 0 0 false 2640,
        gridAt .free 1079 0 0 false 2640],
      s.resetLow = false ∧ (s.grid.state = .free ∨ s.grid.state = .holdover) ∧ s.timebase = s.grid.prediction
        ∧ s.grid.n < s.grid.lines)
    ∧ 1124 + 1 = (gridAt .free 1124 0 0 false 2640).grid.lines := by decide

/-- LOCKING and LOCKED, at and off a frame's end, with 6 and 7 misses before. -/
theorem witness_FlywheelStartsLine :
    (∀ s ∈ [gridAt .locked 100 6 0 false 2648, gridAt .locked 1124 7 0 true 2648, gridAt .locking 100 7 1 false 2648,
        gridAt .locking 1124 0 1 false 2648],
      s.resetLow = false ∧ (s.grid.state = .locking ∨ s.grid.state = .locked) ∧ s.timebase = s.grid.prediction + 8
        ∧ s.grid.n < s.grid.lines) := by decide

/-- In FREE; 9 counts early; 8 early at a frame's end; 8 late off it. -/
theorem witness_LineMarkers :
    (0 : Byte).getLsbD 0 = false
    ∧ (let s := gridAt .free 5 0 0 false 2640
       s.resetLow = false ∧ s.grid.n < s.grid.lines ∧ ¬(s.grid.state = .locking ∨ s.grid.state = .locked))
    ∧ (let s := gridAt .locked 5 0 0 false 2631
       s.resetLow = false ∧ s.grid.n < s.grid.lines ∧ (s.grid.state = .locking ∨ s.grid.state = .locked)
        ∧ ¬(s.timebase - (s.grid.prediction - 8)).toNat ≤ 16)
    ∧ (let s := gridAt .locked 1124 0 0 false 2632
       s.resetLow = false ∧ s.grid.n < s.grid.lines ∧ (s.timebase - (s.grid.prediction - 8)).toNat ≤ 16
        ∧ s.grid.n + 1 = s.grid.lines)
    ∧ (let s := gridAt .locking 5 0 0 false 2648
       s.resetLow = false ∧ s.grid.n < s.grid.lines ∧ (s.timebase - (s.grid.prediction - 8)).toNat ≤ 16
        ∧ s.grid.n + 1 ≠ s.grid.lines) := by decide

/-- P = 999 is not valid; P = 1000 with G = F + D and P = 8191 with G = 4095 realign; the marker of the grid's own P and G at
a due frame boundary is on time, in LOCKED and in LOCKING with and without a miss. -/
theorem witness_FrameMarkers :
    (1 : Byte).getLsbD 0 = true
    ∧ (∀ s ∈ [gridAt .free 5 0 0 false 2640, gridAt .locked 1124 0 0 false 2640, gridAt .locking 1124 0 0 true 2640,
          gridAt .locking 1124 0 0 false 2632, gridAt .locking 1124 0 1 false 2648],
        s.resetLow = false ∧ s.grid.n < s.grid.lines ∧ 1 ≤ s.grid.delay ∧ s.grid.imageLines + s.grid.delay ≤ 1082)
    ∧ ¬(1000 ≤ (999 : Word).toNat)
    ∧ (1000 ≤ (1000 : Word).toNat ∧ (1000 : Word).toNat ≤ 8191 ∧ 1082 ≤ (1082 : Word).toNat ∧ (4095 : Word).toNat ≤ 4095)
    ∧ (∀ s ∈ [gridAt .locked 1124 0 0 false 2640, gridAt .locking 1124 0 0 true 2640, gridAt .locking 1124 0 0 false 2632,
          gridAt .locking 1124 0 1 false 2648],
        (s.grid.state = .locking ∨ s.grid.state = .locked) ∧ s.grid.n + 1 = s.grid.lines
        ∧ (s.timebase - (s.grid.prediction - 8)).toNat ≤ 16 ∧ (2640 : Word).toNat = s.grid.period
        ∧ (1125 : Word).toNat = s.grid.lines) := by decide

/-- A grid of the shortest lines, at the end of its frame. -/
def shortGrid : State :=
  { State.reset with
    timebase := 2640
    grid := { Grid.reset with period := 1000, imageLines := 16, delay := 8, lines := 24, nomLines := 4095, n := 23 }
    pending := [.predictionLineStart] }

theorem witness_StepKeepsGridLawful : shortGrid.grid.Lawful ∧ ∃ t, step shortGrid = .next t := by
  refine ⟨?_, _, rfl⟩
  constructor <;> first | decide | (intro p; cases p <;> decide)

/-- The call that falls due at count 2700. -/
def dueAt (q : Port) : State :=
  { withP0 q with
    timebase := 2700
    grid := { Grid.reset with due := { Grid.reset.due with p0 := some ⟨2700, 3, 1, 9, 2640⟩ } } }

theorem calling_keeps_law (w : WithholdState) (resume k : Nat) (hk : k ≤ 16) (h1 : 64 ≤ resume) (h2 : resume ≤ 1024) :
    (callingPort w resume k).KeepsStoreLaw := by
  constructor
  · constructor <;> first | assumption | simp [callingPort, upPort, Settings.reset, PortId.toNat]
  · simp only [callingPort, Store.cellsHeld, Store.reset, List.map_nil, List.sum_nil, List.length_replicate]; omega
  · simp only [callingPort, Store.reset, List.length_nil, List.length_replicate]; omega
  · simp only [callingPort, List.length_replicate]; omega
  · simp [callingPort]
  · simp [callingPort]
  · intro d hd; cases hd
  · intro h; cases h

/-- OPEN with exactly a line's room, OPEN with none, WITHHOLDING at the resume mark and below it, and a disabled port. -/
theorem witness_CallFallsDue :
    (∀ q, (dueAt q).resetLow = false ∧ (dueAt q).grid.due.get .p0 = some ⟨2700, 3, 1, 9, 2640⟩ ∧ (dueAt q).timebase = 2700)
    ∧ (callingPort .opened 150 15).KeepsStoreLaw ∧ (callingPort .opened 150 16).KeepsStoreLaw
    ∧ (callingPort .withholding 128 14).KeepsStoreLaw ∧ (callingPort .withholding 129 14).KeepsStoreLaw
    ∧ (Port.reset .p0).KeepsStoreLaw
    ∧ ((callingPort .opened 150 15).settings.enabled = true ∧ (callingPort .opened 150 15).lane.state = .up)
    ∧ 64 ≤ 1024 - 15 * 64 ∧ ¬64 ≤ 1024 - 16 * 64 ∧ 128 ≤ 1024 - 14 * 64 ∧ ¬129 ≤ 1024 - 14 * 64 :=
  ⟨fun _ => ⟨rfl, rfl, rfl⟩, calling_keeps_law _ _ _ (by decide) (by decide) (by decide),
    calling_keeps_law _ _ _ (by decide) (by decide) (by decide), calling_keeps_law _ _ _ (by decide) (by decide) (by decide),
    calling_keeps_law _ _ _ (by decide) (by decide) (by decide), reset_port_keeps_law .p0, by decide⟩

/-- A lane that acquires, with `k` idle symbols so far. -/
def acquiring (k : Nat) : State := withP0 { Port.reset .p0 with lane :=
  { Lane.reset with signal := true, state := .acquiring, acquireRun := k } }

theorem witness_LaneAcquires :
    (State.reset.resetLow = false ∧ (State.reset.port .p0).lane.state = .down)
    ∧ (∀ k ∈ [0, 62, 63], (acquiring k).resetLow = false ∧ ((acquiring k).port .p0).lane.state = .acquiring)
    ∧ ((acquiring 62).port .p0).lane.acquireRun < 63 ∧ ((acquiring 63).port .p0).lane.acquireRun = 63
    ∧ LaneSymbol.errored ≠ .idle := by decide

/-- A signal while RESETN is low, and on a lane that is ACQUIRING or UP. -/
theorem witness_LaneAcquires_noted :
    { State.reset with resetLow := true }.resetLow = true
    ∧ (∀ s ∈ [acquiring 5, withP0 (upPort .waiting)], s.resetLow = false ∧ (s.port .p0).lane.state ≠ .down) := by decide

/-- Fifteen errored symbols among the latest 1023 come before. -/
theorem witness_LaneIsLost :
    (let s := withP0 { upPort .waiting with lane := { (upPort .waiting).lane with errorAges := List.replicate 15 1022 } }
     s.resetLow = false ∧ (s.port .p0).lane.state = .up
      ∧ 16 ≤ (0 :: ((s.port .p0).lane.errorAges.map (· + 1)).filter (· < 1024)).length) := by decide

theorem witness_ReceptionStates :
    (∀ rx ∈ [Reception.waiting, .discarding, .header [0, 0], .storing (packet2 1)],
      (withP0 (upPort rx)).resetLow = false ∧ ((withP0 (upPort rx)).port .p0).lane.state = .up
        ∧ ((withP0 (upPort rx)).port .p0).lane.rx = rx)
    ∧ LaneSymbol.startDelim ≠ .errored ∧ LaneSymbol.endDelim ≠ .startDelim ∧ [0, 0].length < 3
    ∧ LaneSymbol.data 5 ≠ .startDelim ∧ LaneSymbol.errored ≠ .endDelim
    ∧ (let ages := List.replicate 14 1022 ++ [1023]
       (0 :: (ages.map (· + 1)).filter (· < 1024)).length = 15) := by decide

/-- Line 1080 of 1080; a count of 241; no entry; another board. -/
theorem witness_HeaderIsStray :
    (let s := withP0 (upPort (.header [0x08, 0x04, 0x38]))
     s.resetLow = false ∧ (s.port .p0).lane.state = .up ∧ (s.port .p0).lane.rx = .header [0x08, 0x04, 0x38]
      ∧ s.grid.imageLines ≤ 256 * ((0x04 : Byte).toNat % 16) + (0x38 : Byte).toNat)
    ∧ 240 < (241 : Byte).toNat ∧ (0x28 : Byte).toNat / 32 ≠ 0
    ∧ (∀ e ∈ (upPort (.header [])).callList, ¬(e.tag = 1 ∧ e.line = 0)) := by decide

/-- A port that waits for the last header byte of line 5, with line 4 called before it. -/
def headerPort : Port :=
  { upPort (.header [0x08, 0x00, 0x05]) with
    callList := [entryOf 4] ++ entryOf 5 :: []
    store := { Store.reset with reservedCells := 150, reservedDescs := 2 } }

theorem witness_HeaderMatches :
    (let s := withP0 headerPort
     s.resetLow = false ∧ (s.port .p0).lane.state = .up ∧ (s.port .p0).lane.rx = .header [0x08, 0x00, 0x05]
      ∧ (0x08 : Byte).toNat / 32 = (s.port .p0).settings.boardId
      ∧ (∀ b ∈ [(1 : Byte), 75, 76, 240], b ≠ 0 ∧ b.toNat ≤ 240)
      ∧ (entryOf 5).line < s.grid.imageLines ∧ (entryOf 5).tag = (0x08 : Byte).extractLsb' 3 2
      ∧ (entryOf 5).line = 256 * ((0x00 : Byte).toNat % 16) + (0x05 : Byte).toNat
      ∧ (s.port .p0).callList = [entryOf 4] ++ entryOf 5 :: []
      ∧ ∀ x ∈ [entryOf 4], ¬(x.tag = (entryOf 5).tag ∧ x.line = (entryOf 5).line)) := by decide

/-- The first byte of the second cell and the last one, a byte beyond the cells held, the two check bytes, and two after
them. -/
theorem witness_PayloadByteIsStored :
    (∀ n ∈ [32, 63], let s := withP0 (storingPort filling2 (packet2 n))
      s.resetLow = false ∧ (s.port .p0).lane.state = .up ∧ (s.port .p0).lane.rx = .storing (packet2 n)
      ∧ (s.port .p0).store.filling? = some filling2 ∧ filling2.cells[(packet2 n).received / 32]? = some 1
      ∧ (packet2 n).received < 32 * (packet2 n).cellCount ∧ (packet2 n).received < 32 * filling2.count
      ∧ ¬((packet2 n).received + 1 = 32 * (packet2 n).cellCount ∧ (s.port .p0).settings.capture = .tail)
      ∧ (s.port .p0).store.pool.wf = true ∧ (s.port .p0).lane.errorAges.length < 15)
    ∧ (let k := { packet2 64 with cellCount := 3 }
       (storingPort filling2 k).store.filling? = some filling2 ∧ k.received < 32 * k.cellCount
        ∧ 32 * filling2.count ≤ k.received)
    ∧ (∀ n ∈ [64, 65], 32 * (packet2 n).cellCount ≤ (packet2 n).received
        ∧ (packet2 n).received < 32 * (packet2 n).cellCount + 2)
    ∧ (∀ n ∈ [66, 67], 32 * (packet2 n).cellCount + 2 ≤ (packet2 n).received) := by decide

theorem witness_DelimiterCompletesPacket :
    (∀ n ∈ [1, 66], let s := withP0 (storingPort filling2 (packet2 n))
      s.resetLow = false ∧ (s.port .p0).lane.state = .up ∧ (s.port .p0).lane.rx = .storing (packet2 n)
      ∧ (s.port .p0).store.filling? = some filling2)
    ∧ (packet2 66).received = 32 * (packet2 66).cellCount + 2 ∧ (packet2 66).running = (packet2 66).check := by decide

theorem witness_LaneEventsKeepTheRest : ∃ t, exec (.laneSymbol .p0 .errored) (withP0 headerPort) = .next t := ⟨_, rfl⟩

theorem witness_StepKeepsStoreLaw : busyPorts.KeepsStoreLaw ∧ ∃ t, step busyPorts = .next t := by
  refine ⟨fun p => ?_, _, rfl⟩
  cases p
  · exact storing_keeps_law
  all_goals exact reset_port_keeps_law _

theorem witness_StepKeepsOwnership :
    busyPorts.KeepsStoreLaw ∧ (∀ p, (busyPorts.port p).store.CellsOwned ∧ (busyPorts.port p).OneAtATime)
    ∧ ∃ t, step busyPorts = .next t := by
  refine ⟨witness_StepKeepsStoreLaw.1, fun p => ?_, _, rfl⟩
  cases p
  · exact ⟨storing_owned, storing_one⟩
  all_goals exact ⟨by constructor <;> decide, by constructor <;> first | decide | (intro h; cases h)⟩

/-- Calls 8 (held) and 9 (outstanding) on line 10, whose own call has still to fall due. -/
def calledPorts : State :=
  { busyPorts with grid := { Grid.reset with lineCount := 10, due := { Grid.reset.due with p0 := some ⟨2700, 4, 1, 10, 2640⟩ } } }

theorem allOf {α : Type} {l : List α} {P : α → Prop} [DecidablePred P] (h : (l.all fun a => decide (P a)) = true) :
    ∀ a ∈ l, P a := by simpa using h

theorem witness_StepKeepsOwnership_calls :
    (∀ p, calledPorts.CallsOrdered p)
    ∧ (∀ p, ∀ c ∈ (calledPorts.port p).callCounts, (calledPorts.grid.lineCount - c).toNat < 2147483647)
    ∧ ∃ t, step calledPorts = .next t := by
  refine ⟨fun p => ?_, fun p => allOf ?_, _, rfl⟩
  · cases p
    · refine ⟨by decide, allOf (by decide), fun d h => ?_⟩
      have h' : d = ⟨2700, 4, 1, 10, 2640⟩ := (Option.some.inj h).symm
      subst h'
      decide
    all_goals exact ⟨by decide, allOf (by decide), fun d h => by cases h⟩
  · cases p <;> decide

/-- Servos, tables, an ancillary buffer with its window full, mailboxes full, and byte stores with bytes in them. -/
def busyBlocks : State :=
  { busyPorts with
    table := ⟨plan, plan, true, 7⟩
    anc := ⟨[(0, 1), (4095, 2)], .stream, 4096, 4095, 4096, 4095, 4096⟩
    mail := ⟨List.replicate 8 [1], List.replicate 8 (List.replicate 64 0), none, .mail, true⟩ }

theorem plan_sound : BankSound plan := by
  refine ⟨by decide, by decide, ?_⟩
  intro e he
  have h : ∀ x ∈ plan, 1 ≤ x.quota ∧ x.quota ≤ 240 ∧ x.priority ≤ 3 := by decide
  exact h e he

theorem witness_StepKeepsBlocksSound :
    (∀ p, (busyBlocks.port p).servo.InRange) ∧ busyBlocks.table.Lawful ∧ busyBlocks.anc.Lawful ∧ busyBlocks.mail.Lawful
    ∧ busyBlocks.MemorySound ∧ ∃ t, step busyBlocks = .next t := by
  refine ⟨fun p => ?_, ⟨plan_sound, plan_sound⟩, ?_, ?_, ?_, _, rfl⟩
  · cases p <;> constructor <;> decide
  · constructor <;> decide
  · constructor <;> decide
  · refine ⟨fun p => ?_, ?_⟩
    · cases p <;> exact ⟨by decide, by decide⟩
    · exact ⟨by decide, by decide⟩

/-- A link at class 4 with a pending ceiling of 3, two bad records and 15 failed blocks. -/
def steppingLink : Link :=
  { Link.reset with
    state := .up
    framesRunning := true
    inForce := some 4
    scheduled := some 3
    pendingCeiling := some 3
    badRun := 2
    failureRun := 15
    silenceExpiry := some 1485000 }

theorem witness_StepKeepsLinkLawful :
    steppingLink.Lawful ∧ ∃ t, step { withLink steppingLink with pending := [.health 9] } = .next t := by
  refine ⟨?_, _, rfl⟩
  constructor
  · decide
  · intro m h; cases h; exact ⟨by decide, rfl, 3, rfl⟩
  · decide
  · decide
  · intro c h; cases h; decide
  · intro c h; cases h; decide
  · intro c h; cases h
  · decide
  · decide
  · decide
  · decide

/-- A local WRITE of one word, and a remote READ. -/
def localWrite : Txn := ⟨.toLocal, 1, 2, 0, 0, 0, 16, 1, [0x55AA]⟩
def remoteRead : Txn := ⟨.remote, 9, 1, 1, 0, 0, 16, 2, []⟩
def remoteWrite : Txn := ⟨.remote, 9, 1, 0, 0, 0, 16, 1, [0x1234]⟩

/-- The entry of a transaction whose record is over. -/
def endedEntry (t : Txn) : RemoteEntry := ⟨8, [9, 1, 1, 0, 0, 0, 16, 2], t, none, .ended, false⟩

/-- An AT-LEVEL WRITE whose level of 1 is reached while its record arrives. -/
def atLevelEntry : RemoteEntry :=
  ⟨12, [9, 1, 0, 1, 1, 0, 16, 2], { remoteWrite with rule := 1, level := 1, count := 2 }, none, .receiving, true⟩

/-- A transaction on the bus. -/
def onBus (t : Txn) (phase : BusPhase) (sent : Nat) (record : RecordStatus) : BusTxn :=
  ⟨t, phase, sent, false, [], none, record, some 14850⟩

/-- Eight transactions outstanding on either side. -/
def fullBus : Bus :=
  { Bus.reset with
    localQueue := List.replicate 8 localWrite
    remoteQueue := List.replicate 6 (endedEntry remoteRead)
    txn := some (onBus remoteRead .answer 0 .arriving)
    remoteReplies := [⟨.remote, 1, 1, 1, .ok, 1, 2, [3]⟩] }

theorem witness_StepKeepsCredit :
    fullBus.KeepsCredit ∧ ∃ t, step { withBus fullBus with pending := [.boardAnswer .nak] } = .next t := by
  refine ⟨?_, _, rfl⟩
  constructor
  · decide
  · decide
  · decide
  · decide
  · intro r h; cases h
  · intro t h _; cases h; rfl

/-- R78: a frame start by prediction with a commit pending swaps, and the new line is line 0. -/
theorem test_swap_at_the_frame_start :
    (let s := gridAt .free 1124 0 0 false 2640
     let t := nextOf (exec .predictionLineStart { s with table := ⟨[⟨.anc, 1, 0⟩], [⟨.fill, 1, 0⟩], true, 255⟩ })
     (t.grid.n, t.table)) = (0, ⟨[⟨.anc, 1, 0⟩], [⟨.anc, 1, 0⟩], false, 0⟩) := by decide +kernel

theorem witness_ActiveBankChanges :
    (∃ t, exec .predictionLineStart (gridAt .free 1124 0 0 false 2640) = .next t)
    ∧ (∃ t, exec .commitSlots State.reset = .next t) ∧ (∀ r b, Instr.commitSlots ≠ .powerOn r b)
    ∧ Instr.commitSlots ≠ .replyEnd ∧ Instr.commitSlots ≠ .predictionLineStart ∧ Instr.commitSlots ≠ .fitWindowExpiry
    ∧ ∀ m p g, Instr.commitSlots ≠ .marker m p g :=
  ⟨⟨_, rfl⟩, ⟨_, rfl⟩, fun _ _ h => (by cases h), by decide, by decide, by decide, fun _ _ _ h => (by cases h)⟩

theorem witness_FlagsLatch :
    Instr.failedBlock.wellFormed = true ∧ (∃ t, exec .failedBlock State.reset = .next t)
    ∧ (∀ r b, Instr.failedBlock ≠ .powerOn r b) ∧ (∀ ns, Instr.failedBlock ≠ .clearFlags ns)
    ∧ (∀ b, Instr.failedBlock ≠ .mgmtByte b) ∧ Instr.failedBlock ≠ .replyEnd ∧ State.reset.hasFlag .powerOn = true :=
  ⟨rfl, ⟨_, rfl⟩, fun _ _ h => (by cases h), fun _ h => (by cases h), fun _ h => (by cases h), by decide, by decide⟩

/-- A port in TRACK with a TAIL capture, its last payload byte to come. -/
def tailPort (samples : Nat) : Port :=
  let q := storingPort filling2 (packet2 63)
  { q with
    settings := { q.settings with mode := .track, capture := .tail }
    servo := { q.servo with samples := samples } }

theorem witness_ServoTakesSample :
    (State.reset.port .p0).settings.mode = .off
    ∧ (∀ k ∈ [14, 15], (tailPort k).settings.mode = .track ∧ (tailPort k).servo.samples = k)
    ∧ (let s := withP0 (tailPort 15)
       s.resetLow = false ∧ (s.port .p0).lane.state = .up ∧ (s.port .p0).lane.rx = .storing (packet2 63)
        ∧ (s.port .p0).settings.capture = .tail ∧ (s.port .p0).store.filling? = some filling2
        ∧ filling2.count = (packet2 63).cellCount
        ∧ filling2.cells[(packet2 63).cellCount - 1]? = some 1 ∧ (packet2 63).received + 1 = 32 * (packet2 63).cellCount
        ∧ 0 = min (s.timebase - (packet2 63).lineStart).toNat 65535 ∧ (s.port .p0).lane.errorAges.length < 15)
    ∧ (let k := { packet2 95 with cellCount := 3 }
       (storingPort filling2 k).store.filling? = some filling2 ∧ k.received + 1 = 32 * k.cellCount
        ∧ filling2.count < k.cellCount) := by decide

/-- Classes 5 and 2 of section 5.9: index 5 is shed, indices 0 and 1 are not; at class 2 there is a cut. -/
theorem witness_ShedAndCut :
    BankSound plan ∧ 1000 ≤ 1000 ∧ 8191 ≤ 8191
    ∧ ((Engine.reset.atFrameStart 2640 (some 5) plan).shed.getD 5 false = true
      ∧ (Engine.reset.atFrameStart 2640 (some 5) plan).shed.getD 0 false = false)
    ∧ (Engine.reset.atFrameStart 2640 (some 2) plan).cut = some ⟨1, 26⟩ :=
  ⟨plan_sound, by decide, by decide, by decide, by decide⟩

/-- Port 0 with one descriptor for call count 8 in a state, under a policy. -/
def takePort (st : DescState) (policy : DamagePolicy) : Port :=
  let q := storingPort { filling2 with state := st } (packet2 1)
  { q with settings := { q.settings with policy := policy } }

/-- COMPLETE, DAMAGED and FILLING descriptors of the wanted count, a newer one, and none. -/
theorem witness_TakeDecides :
    (∀ st ∈ [DescState.complete, .damaged, .filling, .sending], ∀ policy ∈ [DamagePolicy.pass, .conceal],
      (takePort st policy).store.ring.filter (fun d => !decide (1 ≤ (8 - d.callCount).toNat
        ∧ (8 - d.callCount).toNat < 2147483648)) = { filling2 with state := st } :: []
      ∧ ({ filling2 with state := st } : Descriptor).callCount = 8 ∧ (takePort st policy).settings.policy = policy)
    ∧ ({ filling2 with state := .complete } : Descriptor).callCount ≠ 7
    ∧ (State.reset.port .p0).store.ring = [] ∧ (takePort .filling .pass).lane.rx = .storing (packet2 1) := by decide

/-- The same FILLING descriptor is stale for a wanted call count of 9; nothing FILLING goes where the descriptor is COMPLETE;
and a lane that waits stores nothing. -/
theorem witness_TakeDecides_discards :
    (∃ d ∈ (takePort .filling .pass).store.ring,
      decide (1 ≤ (9 - d.callCount).toNat ∧ (9 - d.callCount).toNat < 2147483648) = true ∧ d.state = .filling)
    ∧ (¬∃ d ∈ (takePort .complete .pass).store.ring,
      decide (1 ≤ (8 - d.callCount).toNat ∧ (8 - d.callCount).toNat < 2147483648) = true ∧ d.state = .filling)
    ∧ (∀ k, (State.reset.port .p0).lane.rx ≠ .storing k)
    ∧ (let t := takeLine .p0 9 (withP0 (takePort .filling .pass))
       (t.port .p0).lane.rx = .discarding ∧ (t.port .p0).store.ring = []) := by
  refine ⟨by decide, by decide, ?_, by decide +kernel⟩
  intro k h
  cases h

/-- R79: a frame start with no class in force, from an engine with a shed set and a cut, and one with class 4. -/
theorem witness_FrameStartActs :
    State.reset.link.framesRunning = false ∧ (steppingLink.framesRunning = true ∧ steppingLink.inForce = some 4)
    ∧ (let g := (Engine.reset.atFrameStart 2640 (some 2) plan).atFrameStart 2640 none plan
       g.capacity = none ∧ g.cut = none ∧ true ∉ g.shed ∧ g.prevShed = true) := by decide +kernel

/-- A carried period over a bank, `k` of its cells handed over. -/
def carriedAt (bank : List SlotEntry) (k : Nat) : State :=
  { withP0 (takePort .sending .pass) with
    table := ⟨bank, bank, false, 1⟩
    engine := { Engine.reset with
      carried := true
      handed := k
      sending := { Engine.reset.sending with p0 := some ⟨8, 1⟩ } }
    link := { steppingLink with pendingCeiling := none } }

/-- A bank of two line cells, one FILL, one ANC and one RETURN cell. -/
def smallBank : List SlotEntry := [⟨.port .p0, 2, 0⟩, ⟨.port .p1, 1, 0⟩, ⟨.fill, 1, 0⟩, ⟨.anc, 1, 0⟩, ⟨.ret, 1, 0⟩]

theorem witness_CellsAreHandedOver :
    (¬(State.reset.engine.carried = true ∧ State.reset.link.framesRunning = true
      ∧ State.reset.link.returnInFlight = false))
    ∧ (∀ k ∈ [0, 1, 2, 3, 4, 5, 8], let s := carriedAt smallBank k
        s.resetLow = false ∧ s.engine.carried = true ∧ s.link.framesRunning = true ∧ s.link.returnInFlight = false
        ∧ s.engine.handed = k)
    ∧ (let s := carriedAt smallBank 3
       s.slotCells = [2, 1, 1, 1, 1] ∧ s.table.active[0]? = some ⟨.port .p0, 2, 0⟩ ∧ (s.slotCells.take 0).sum ≤ 1
        ∧ 1 < (s.slotCells.take 1).sum ∧ s.engine.sending.get .p0 = some ⟨8, 1⟩
        ∧ (s.port .p0).store.sending? = some { filling2 with state := .sending } ∧ 1 < filling2.count
        ∧ filling2.cells[1]? = some 1)
    ∧ (let s := carriedAt smallBank 4
       s.table.active[1]? = some ⟨.port .p1, 1, 0⟩ ∧ (s.slotCells.take 1).sum ≤ 2 ∧ 2 < (s.slotCells.take 2).sum
        ∧ s.engine.sending.get .p1 = none)
    ∧ (let s := carriedAt smallBank 5
       s.table.active[2]? = some ⟨.fill, 1, 0⟩ ∧ (s.slotCells.take 2).sum ≤ 3 ∧ 3 < (s.slotCells.take 3).sum)
    ∧ (carriedAt smallBank 8).slotCells.sum ≤ 6
    ∧ State.reset.link.framesRunning = false
    ∧ (carriedAt smallBank 3).link.cell = none
    ∧ { steppingLink with cell := some ⟨.header, [1]⟩ }.framesRunning = true := by decide

/-- The mailboxes with records in the sources and one in progress, or none. -/
def mailWith (outbox : List (List Byte)) (record : Option ReturnRecord) (last : ReturnSource) : Mailboxes :=
  ⟨[], outbox, record, last, false⟩

theorem witness_AncAndReturnCells :
    (∀ k ∈ [5, 6], let s := carriedAt smallBank (k + 0)
      s.resetLow = false ∧ s.engine.carried = true ∧ s.link.framesRunning = true ∧ s.link.returnInFlight = false)
    ∧ (let s := carriedAt smallBank 6
       s.engine.handed = 4 + 2 ∧ s.table.active[3]? = some ⟨.anc, 1, 0⟩ ∧ (s.slotCells.take 3).sum ≤ 4
        ∧ 4 < (s.slotCells.take 4).sum ∧ s.anc.mode = .stream)
    ∧ { AncBuffer.reset with mode := .repeating, fill := 0 }.mode = .repeating
    ∧ (let s := carriedAt smallBank 7
       s.engine.handed = 5 + 2 ∧ s.table.active[4]? = some ⟨.ret, 1, 0⟩ ∧ (s.slotCells.take 4).sum ≤ 5
        ∧ 5 < (s.slotCells.take 5).sum ∧ s.mail.record = none ∧ s.bus.remoteReplies = [] ∧ s.mail.outbox = [])
    ∧ (mailWith [[1, 2]] none .forwardReply).outbox = [1, 2] :: []
    ∧ fullBus.remoteReplies = ⟨.remote, 1, 1, 1, .ok, 1, 2, [3]⟩ :: [] ∧ (mailWith [[1]] none .mail).lastSource = .mail
    ∧ (mailWith [[1]] (some ⟨.mail, 0⟩) .mail).record = some ⟨.mail, 0⟩
    ∧ (mailWith [[1]] (some ⟨.forwardReply, 0⟩) .mail).record = some ⟨.forwardReply, 0⟩ := by decide

/-- A mail of 27 bytes ends with its first cell, one of 28 does not. -/
theorem witness_ReturnCellIsCarried :
    (State.reset.resetLow = false ∧ State.reset.link.returnInFlight = false)
    ∧ (withLink { Link.reset with returnInFlight := true }).mail.record = none
    ∧ (let s := { withMail (mailWith [List.replicate 28 1] (some ⟨.mail, 0⟩) .mail) with
        link := { Link.reset with returnInFlight := true } }
       s.link.returnInFlight = true ∧ s.mail.record = some ⟨.mail, 0⟩ ∧ s.mail.outbox = List.replicate 28 1 :: []
        ∧ 32 * (0 + 1) < (List.replicate 28 (1 : Byte)).length + 5)
    ∧ (List.replicate 27 (1 : Byte)).length + 5 ≤ 32 * (0 + 1)
    ∧ (let s := { withBus fullBus with
        mail := mailWith [] (some ⟨.forwardReply, 0⟩) .forwardReply
        link := { Link.reset with returnInFlight := true } }
       s.link.returnInFlight = true ∧ s.mail.record = some ⟨.forwardReply, 0⟩
        ∧ s.bus.remoteReplies = ⟨.remote, 1, 1, 1, .ok, 1, 2, [3]⟩ :: [] ∧ 2 * [(3 : Word)].length + 12 ≤ 32 * (0 + 1))
    ∧ 32 * (0 + 1) < 2 * (List.replicate 11 (3 : Word)).length + 12 := by decide

theorem witness_BlocksAndSilence :
    (State.reset.resetLow = false ∧ State.reset.link.assembly = .idle ∧ State.reset.link.state = .silent
      ∧ State.reset.link.silenceExpiry ≠ some State.reset.timebase)
    ∧ ((withLink steppingLink).link.assembly = .idle ∧ (withLink steppingLink).link.state ≠ .silent
      ∧ 15 ≤ (withLink steppingLink).link.failureRun)
    ∧ { steppingLink with failureRun := 14 }.failureRun < 15
    ∧ (let k := { steppingLink with failureRun := 0, assembly := .collecting ⟨[0x02, 0, 64], 3, [], 0, 0⟩ }
       k.assembly = .collecting ⟨[0x02, 0, 64], 3, [], 0, 0⟩ ∧ k.state ≠ .silent ∧ k.failureRun < 15)
    ∧ { withLink steppingLink with timebase := 1485000 }.link.silenceExpiry = some 1485000 := by decide

/-- Each state of the assembly, in SILENT and in UP, with a failure run of 14 and of 15, at the silence expiry's count. -/
theorem witness_BlocksAndSilence_assemblies :
    (∀ a ∈ [Assembly.idle, .discarding, .collecting ⟨[0x01, 0], 2, [], 0, 0⟩, .collecting ⟨[0x02, 0, 64], 5, [], 0, 0⟩,
        .collecting ⟨[0x01, 0, 10], 5, [], 0, 0⟩], ∀ run ∈ [14, 15],
      let s := { withLink { steppingLink with assembly := a, failureRun := run } with timebase := 1485000 }
      s.resetLow = false ∧ s.link.assembly = a ∧ s.link.state ≠ .silent ∧ s.link.failureRun = run
      ∧ s.link.silenceExpiry = some s.timebase ∧ (withLink { Link.reset with assembly := a }).link.state = .silent)
    ∧ [(0x01 : Byte), 0].length ≠ 3 := by decide

/-- R119, R138: the sixteenth failed block abandons a BOARD-FORWARD record whose write is on the bus. -/
theorem test_loss_reports_the_record :
    (let s := { withBus { Bus.reset with txn := some (onBus remoteWrite .answer 1 .arriving) } with
        link := { steppingLink with assembly := .collecting ⟨[0x01, 0, 10], 5, [], 0, 0⟩ } }
     let t := nextOf (exec .failedBlock s)
     (t.link.state, t.link.assembly, t.bus.txn.map (·.record))) = (.silent, .idle, some .failed) := by decide +kernel

/-- Classes 6 and 5; a link in SILENT, in TRAINING with an accepted class, and in UP; an expiry at the present count. -/
theorem witness_Training :
    5 < (6 : Byte).toNat ∧ (5 : Byte).toNat ≤ 5
    ∧ (State.reset.resetLow = false ∧ State.reset.link.state ≠ .up ∧ State.reset.link.accepted ≠ some 5
      ∧ State.reset.link.trainingExpiry ≠ some State.reset.timebase)
    ∧ (withLink steppingLink).link.state = .up
    ∧ (let k := { Link.reset with state := .training, accepted := some 5, trainingExpiry := some 0 }
       k.state ≠ .up ∧ k.accepted = some (5 : Byte).toNat ∧ k.trainingExpiry = some State.reset.timebase) := by decide

/-- At and around the threshold of 4, with the runs at 1 and 2, 62 and 63, the base class at 0, at the limit and below it. -/
theorem witness_HealthIsJudged :
    (State.reset.resetLow = false ∧ State.reset.link.framesRunning = false)
    ∧ (steppingLink.framesRunning = true ∧ steppingLink.threshold < (5 : Word).toNat ∧ 2 ≤ steppingLink.badRun
      ∧ steppingLink.scheduled = some 3)
    ∧ ({ steppingLink with badRun := 1 }.badRun < 2 ∧ 0 < (4 : Word).toNat ∧ (4 : Word).toNat ≤ steppingLink.threshold)
    ∧ ({ steppingLink with scheduled := some 0 }.scheduled = some 0)
    ∧ ((0 : Word).toNat = 0 ∧ { steppingLink with cleanRun := 62 }.cleanRun < 63
      ∧ 63 ≤ { steppingLink with cleanRun := 63 }.cleanRun)
    ∧ ({ steppingLink with pendingCeiling := none }.pendingCeiling.getD steppingLink.ceiling = 5 ∧ 3 < 5)
    ∧ (steppingLink.pendingCeiling.getD steppingLink.ceiling ≤ 3) := by decide

/-- A mail record of 19 bytes fills a block; a READ record takes 13. The checks are the ones over the bytes before them. -/
def mailBlock (check : Word) : List Byte := (0x02 :: (be16n 19 ++ List.replicate 19 7)) ++ be16 check ++ []
def readHead : List Byte := [9, 1, 1, 0, 0] ++ be16 16 ++ [2]
def readBlock : List Byte := withCheck ([0x01, 0x00, 0x08] ++ readHead) ++ List.replicate 11 0

theorem witness_SegmentsBringRecords :
    (State.reset.resetLow = false ∧ State.reset.link.assembly = .idle)
    ∧ ((mailBlock 1).length = 24 ∧ readBlock.length = 24 ∧ 24 < (25 : Byte).toNat)
    ∧ ((0xC0 : Byte).getLsbD 7 = true ∧ (0xC0 : Byte).getLsbD 6 = true ∧ (0x40 : Byte).getLsbD 7 = false)
    ∧ (3 ≤ (3 : Byte).toNat ∧ (0x03 :: List.replicate 23 (0 : Byte)).head? = some 0x03)
    ∧ (mailBlock (checkOf (0x02 :: (be16n 19 ++ List.replicate 19 7)))).length = 24
    ∧ State.reset.mail.inbox.length < 8
    ∧ (⟨.remote, 9, 1, 1, 0, 0, 16, 2, []⟩ : Txn).wellFormed = true
    ∧ (let b := { Bus.reset with txn := some (onBus localWrite .select 0 .passed) }
       b.txn.isSome ∧ b.remoteQueue = [] ∧ b.pendingReply = none ∧ b.remoteOutstanding < 8)
    ∧ 8 ≤ { Bus.reset with remoteReplies := List.replicate 8 (remoteRead.reply .ok 2 [1, 2]) }.remoteOutstanding := by
  decide +kernel

/-- One byte more into a record of each destination at each place, the newest remote entry at each, and the record ends. -/
theorem witness_SegmentsBringRecords_bytes :
    (∀ a ∈ [Assembly.idle, .discarding, .collecting ⟨[], 0, [], 0, 0⟩, .collecting ⟨[2, 0], 2, [], 0, 0⟩,
        .collecting ⟨[1, 0], 2, [], 0, 0⟩, .collecting ⟨[2, 0, 64], 66, [], 0, 0⟩, .collecting ⟨[1, 0, 10], 12, [], 0, 0⟩],
      let s := withLink { Link.reset with assembly := a }
      s.resetLow = false ∧ s.link.assembly = a ∧ s.bus.remoteOutstanding < 8 ∧ s.mail.inbox.length < 8)
    ∧ (256 * (0 : Byte).toNat + (64 : Byte).toNat ≤ 64 ∧ 64 < 256 * (0 : Byte).toNat + (65 : Byte).toNat)
    ∧ (66 < 3 + 64 ∧ 67 = 3 + 64 ∧ 68 = 4 + 64 ∧ 12 < 3 + 10 ∧ 13 = 3 + 10 ∧ 14 = 4 + 10)
    ∧ 8 ≤ (withBus fullBus).bus.remoteOutstanding
    ∧ (∀ e ∈ [({ atLevelEntry with head := [9, 1, 0, 1, 1, 0] } : RemoteEntry), { atLevelEntry with head := [9, 1, 0, 1, 1, 0, 16] },
        atLevelEntry, { atLevelEntry with half := some 7 }, { atLevelEntry with state := .void }],
      (withBus { Bus.reset with remoteQueue := [endedEntry remoteRead] ++ [e] }).bus.remoteQueue = [endedEntry remoteRead] ++ [e]
      ∧ e.arriving = true ∧ (e.state = .receiving ∨ e.state = .void))
    ∧ ([(9 : Byte), 1, 0, 1, 1, 0].length < 7 ∧ [(9 : Byte), 1, 0, 1, 1, 0, 16].length < 8)
    ∧ atLevelEntry.txn.words.length < atLevelEntry.txn.count.toNat ∧ remoteWrite.count.toNat ≤ remoteWrite.words.length := by
  decide +kernel

/-- The check bytes of a record whose body has 6 bytes: the newest entry holds 6 and then 7 bytes of its head, or an entry's
record is over and nothing on the bus arrives. -/
theorem witness_SegmentsBringRecords_check :
    (∀ k ∈ [6, 7],
      let e : RemoteEntry := { RemoteEntry.fresh 6 with head := [9, 1, 1, 0, 0, 0, 0xC6].take k }
      let s := { withLink { Link.reset with assembly := .collecting ⟨[1, 0, 6], 3 + k, [], 0xC673, 0⟩ } with
        bus := { Bus.reset with remoteQueue := [endedEntry remoteRead] ++ [e] } }
      s.resetLow = false ∧ s.link.assembly = .collecting ⟨[1, 0, 6], 3 + k, [], 0xC673, 0⟩
      ∧ s.bus.remoteQueue = [endedEntry remoteRead] ++ [e] ∧ e.arriving = true ∧ e.state = .receiving ∧ e.head.length = k
      ∧ 3 + (256 * (0 : Byte).toNat + (6 : Byte).toNat) ≤ 3 + k ∧ 3 + k ≤ 4 + (256 * (0 : Byte).toNat + (6 : Byte).toNat))
    ∧ (∀ es e, (withBus { Bus.reset with remoteQueue := [endedEntry remoteRead] }).bus.remoteQueue = es ++ [e] →
      e.arriving = false)
    ∧ (∀ t, (withBus { Bus.reset with remoteQueue := [endedEntry remoteRead] }).bus.txn = some t → t.record ≠ .arriving)
    ∧ ((withCheck ([0x01, 0x00, 6] ++ [9, 1, 1, 0, 0, 0]) ++ List.replicate 13 0).length = 24
      ∧ ((withCheck ([0x01, 0x00, 6] ++ [9, 1, 1, 0, 0, 0])).drop 3).take 8 = [9, 1, 1, 0, 0, 0, 0xC6, 0x73]
      ∧ (let b := { Bus.reset with txn := some (onBus localWrite .select 0 .passed) }
         b.txn.isSome ∧ b.remoteQueue = [] ∧ b.pendingReply = none ∧ b.remoteOutstanding < 8)) := by
  refine ⟨by decide, ?_, ?_, by decide +kernel⟩
  · intro es e h
    cases es with
    | nil => cases h; rfl
    | cons x xs => cases xs <;> cases h
  · intro t h
    cases h

theorem witness_UplinkBlocksAreRows :
    (Instr.segment 0xFF 0xFF (List.replicate 24 0xFF)).wellFormed = true
    ∧ (uplinkFields (.segment 0xFF 0xFF (List.replicate 24 0xFF))).isSome
    ∧ (∀ k ∈ [(0x00 : Byte), 0x07, 0xFF], (k = 0 ∨ 6 < k.toNat)
      ∧ (List.replicate 29 (0 : Byte) ++ be16 (checkOf (k :: List.replicate 29 0))).length = 31
      ∧ (k :: (List.replicate 29 (0 : Byte) ++ be16 (checkOf (k :: List.replicate 29 0)))).drop 30
        = be16 (checkOf ((k :: (List.replicate 29 (0 : Byte) ++ be16 (checkOf (k :: List.replicate 29 0)))).take 30)))
    ∧ ((0x06 :: List.replicate 29 (0 : Byte)) ++ [0x1C, 0x06]).drop 30
      ≠ be16 (checkOf (((0x06 :: List.replicate 29 (0 : Byte)) ++ [0x1C, 0x06]).take 30)) := by decide +kernel

/-- The bus with one transaction on it and nothing waiting, at the count its wait ends. -/
def busOf (t : BusTxn) : State := { withBus { Bus.reset with txn := some t } with timebase := 14850 }

theorem witness_BusWrites :
    (∀ x ∈ [onBus localWrite .select 0 .passed, onBus localWrite .sendingWord 0 .passed,
        onBus { remoteWrite with count := 2 } .sendingWord 0 .arriving, onBus { localWrite with board := 7 } .sendingWord 0 .passed,
        onBus { localWrite with count := 2, words := [1, 2] } .sendingWord 0 .passed,
        onBus { remoteWrite with words := [] } .select 0 .arriving,
        onBus localWrite .answer 1 .passed, onBus { remoteWrite with words := [] } .awaitingWord 0 .arriving,
        onBus remoteWrite .answer 1 .arriving, onBus remoteWrite .answer 1 .failed],
      (busOf x).resetLow = false ∧ (busOf x).bus.txn = some x ∧ x.txn.kind = 0 ∧ x.reads = []
      ∧ x.expiry = some (busOf x).timebase)
    ∧ localWrite.words[0]? = some 0x55AA ∧ ({ remoteWrite with words := [] } : Txn).words[0]? = none
    ∧ 0 + 1 < (2 : Byte).toNat ∧ ([1, 2] : List Word)[0 + 1]? = some 2 ∧ remoteWrite.words[0 + 1]? = none
    ∧ localWrite.count.toNat ≤ 0 + 1 ∧ localWrite.board ≠ 7
    ∧ { onBus localWrite .answer 1 .passed with expiry := some 1 }.expiry ≠ some (busOf (onBus localWrite .answer 1 .passed)).timebase := by
  decide

/-- A streamed WRITE of one word, at its first byte, and at its second while the word is awaited; all its words in. -/
theorem witness_BusWrites_streaming :
    (∀ x ∈ [onBus { remoteWrite with words := [] } .select 0 .arriving,
        { onBus { remoteWrite with words := [] } .awaitingWord 0 .arriving with half := some 0x12 }],
      let s := { busOf x with link := { Link.reset with assembly := .collecting ⟨[1, 0, 10], 12, [], 0, 0⟩ } }
      s.bus.txn = some x ∧ x.record = .arriving ∧ s.bus.pendingReply = none ∧ s.bus.remoteQueue = []
      ∧ s.link.assembly = .collecting ⟨[1, 0, 10], 12, [], 0, 0⟩ ∧ 3 ≤ 12
      ∧ 12 < 3 + (256 * (0 : Byte).toNat + (10 : Byte).toNat)
      ∧ (x.phase = .awaitingWord → x.txn.words.length = x.sent) ∧ x.txn.words.length < x.txn.count.toNat)
    ∧ remoteWrite.count.toNat ≤ remoteWrite.words.length
    ∧ (∀ es e, (busOf (onBus remoteWrite .select 0 .arriving)).bus.remoteQueue = es ++ [e] → e.arriving = false)
    ∧ (let b := { Bus.reset with pendingReply := some (remoteWrite.reply .ok 1 []) }
       b.pendingReply = some (remoteWrite.reply .ok 1 []) ∧ (remoteWrite.reply .ok 1 []).origin = .remote)
    ∧ (State.reset.bus.pendingReply = none ∧ State.reset.bus.txn = none) := by
  refine ⟨by decide, by decide, ?_, by decide, by decide⟩
  intro es e h
  cases es <;> cases h

/-- R137, R131: a starved write's ABORT, then the SELECT of the local head that waits. -/
theorem test_abort_then_select :
    (let s := busOf (onBus { remoteWrite with words := [] } .awaitingWord 0 .arriving)
     (nextOf (exec .answerTimeout { s with bus := { s.bus with localQueue := [localWrite] } })).bus.out)
      = [.abort, .select 2 0 16 1] := by decide +kernel

theorem witness_BusReads :
    (∀ x ∈ [onBus remoteRead .select 0 .passed, onBus remoteRead .answer 0 .passed,
        { onBus remoteRead .answer 0 .passed with acked := true },
        { onBus remoteRead .answer 0 .passed with acked := true, reads := [7] }],
      (busOf x).resetLow = false ∧ (busOf x).bus.txn = some x ∧ x.txn.kind = 1 ∧ x.record = .passed
      ∧ x.expiry = some (busOf x).timebase)
    ∧ ([] : List Word).length + 1 < remoteRead.count.toNat ∧ remoteRead.count.toNat ≤ [(7 : Word)].length + 1
    ∧ State.reset.resetLow = false ∧ State.reset.bus.txn = none := by decide

/-- The bus idle with one entry on a side, POWER_ON cleared. -/
def queued (l : List Txn) (r : List RemoteEntry) (served : Origin) (gate : GateMode) (permit : Bool) : State :=
  { withBus { Bus.reset with
      localQueue := l
      remoteQueue := r
      lastServed := served
      gate := gate
      permit := permit } with flagUnit := { FlagUnit.reset with flags := 0 } }

theorem witness_GrantsAndGate :
    (¬(fullBus.txn = none ∧ fullBus.grantingStopped = false))
    ∧ (∀ e es, fullBus.remoteQueue = e :: es → ¬(e.state = .void ∧ e.arriving = false))
    ∧ (State.reset.bus.localQueue = [] ∧ State.reset.bus.remoteQueue = [] ∧ State.reset.hasFlag .powerOn = true)
    ∧ (let s := queued [localWrite] [endedEntry remoteRead] .remote .shut false
       s.bus.txn = none ∧ s.bus.grantingStopped = false ∧ s.bus.localQueue = localWrite :: [] ∧ s.bus.lastServed = .remote)
    ∧ (∀ s ∈ [queued [localWrite] [endedEntry remoteRead, endedEntry remoteWrite] .toLocal .shut false,
          queued [] [endedEntry remoteRead, endedEntry remoteWrite] .remote .shut false],
        s.bus.txn = none ∧ s.bus.grantingStopped = false
        ∧ s.bus.remoteQueue = endedEntry remoteRead :: [endedEntry remoteWrite]
        ∧ s.hasFlag .powerOn = false ∧ (s.bus.localQueue = [] ∨ s.bus.lastServed = .toLocal))
    ∧ ((endedEntry remoteRead).state = .ended ∧ (endedEntry remoteRead).arriving = false ∧ remoteRead.kind = 1
      ∧ remoteWrite.kind = 0 ∧ remoteWrite.origin = .remote)
    ∧ (atLevelEntry.state = .receiving ∧ atLevelEntry.head.length = 8 ∧ atLevelEntry.txn.kind = 0
      ∧ atLevelEntry.txn.rule = 1 ∧ atLevelEntry.txn.level.toNat ≤ atLevelEntry.txn.words.length
      ∧ ¬(2 : Byte).toNat ≤ atLevelEntry.txn.words.length)
    ∧ (∀ s ∈ [queued [] [endedEntry remoteWrite] .remote .opened false, queued [] [endedEntry remoteWrite] .remote .single true],
        s.bus.gate = .opened ∨ s.bus.gate = .single ∧ s.bus.permit = true)
    ∧ (∀ s ∈ [queued [] [endedEntry remoteWrite] .remote .shut false, queued [] [endedEntry remoteWrite] .remote .single false],
        ¬(s.bus.gate = .opened ∨ s.bus.gate = .single ∧ s.bus.permit = true))
    ∧ (let e : RemoteEntry := { endedEntry remoteWrite with state := .void }
       (queued [localWrite] [e, e] .remote .shut false).bus.remoteQueue = e :: [e] ∧ e.state = .void ∧ e.arriving = false
        ∧ e.txn.origin = .remote) := by
  refine ⟨by decide, ?_, by decide, by decide, by decide, by decide, by decide, by decide, by decide, by decide⟩
  intro e es h
  cases h
  decide

theorem witness_RequestRecordsAreRows :
    Request.wellFormed (.forward ⟨1, 7, 0, 4095, 1, [0xFFFF]⟩) = true
    ∧ State.reset.resetLow = false ∧ State.reset.mgmt.rx = .hunting ∧ State.reset.mgmt.gapExpiry = none := by decide

theorem witness_RepliesHoldAndReset :
    (∀ m ∈ [({ MgmtPort.reset with reply := some ⟨[1], 0, 9, false⟩ } : MgmtPort),
        { MgmtPort.reset with reply := some ⟨[1], 1, 0, true⟩ }],
      (withMgmt m).resetLow = false ∧ (withMgmt m).mgmt.holding = none)
    ∧ { MgmtPort.reset with reply := some ⟨[1], 0, 9, false⟩, holding := some Request.readGrid.record }.holding
      = some Request.readGrid.record
    ∧ (State.reset.mgmt.reply = none ∧ State.reset.bus.txn = none)
    ∧ (busOf (onBus localWrite .select 0 .passed)).bus.txn.isSome ∧ State.reset.Listens
    ∧ (busOf (onBus localWrite .select 0 .passed)).Listens :=
  ⟨by decide, rfl, by decide, rfl, ⟨rfl, rfl, rfl⟩, ⟨rfl, rfl, rfl⟩⟩

/-- Behind a reply and behind a RESTART's: a request, a failed check, an unknown kind, and a body of a wrong length. -/
theorem witness_RepliesHoldAndReset_held :
    (∀ thenReset ∈ [false, true], ∀ h ∈ [some Request.readGrid.record, some ⟨0x11, [], false⟩, some ⟨0x07, [], true⟩,
        some ⟨0x11, [1], true⟩],
      let s := withMgmt { MgmtPort.reset with reply := some ⟨[1], 1, 0, thenReset⟩, holding := h }
      s.resetLow = false ∧ s.mgmt.reply = some ⟨[1], 1, 0, thenReset⟩ ∧ s.mgmt.holding = h)
    ∧ (0x07 : Byte).toNat ∉ catalogueKinds ∧ (0x11 : Byte).toNat ∈ catalogueKinds ∧ lengthFits 0x11 [1] = false := by
  decide +kernel

/-- R159, section 10.6: a RESTART and an IDENTIFY back to back: the IDENTIFY is answered after the reset, with POWER_ON in its
summary. -/
theorem test_held_behind_restart :
    (let s := { withMgmt { MgmtPort.reset with reply := some ⟨[1], 1, 0, true⟩, holding := some Request.identify.record } with
        flagUnit := { FlagUnit.reset with flags := mark 3 } }
     (nextOf (exec .replyEnd s)).mgmt.reply.map fun r => r.record.take 5) = some [0x3C, 0x01, 0x00, 0x80, 0x10] := by rfl

theorem witness_ReceiverCollects :
    (State.reset.resetLow = false ∧ State.reset.mgmt.rx = .hunting ∧ (0xC2 : Byte) ≠ 0xC3 ∧ State.reset.mgmt.reply = none
      ∧ State.reset.mgmt.holding = none)
    ∧ (withMgmt { MgmtPort.reset with rx := .receiving [0xC3, 1] }).mgmt.rx = .receiving [0xC3, 1]
    ∧ 512 < 256 * (0x02 : Byte).toNat + (0x01 : Byte).toNat
    ∧ [(0x9B : Byte), 0x89] ≠ be16 (checkOf ([0xC3, 0x01] ++ be16n 0 ++ []))
    ∧ { MgmtPort.reset with rx := .receiving [0xC3], gapExpiry := some 0 }.gapExpiry = some State.reset.timebase
    ∧ State.reset.mgmt.gapExpiry ≠ some State.reset.timebase ∧ catalogueKinds.contains (0x07 : Byte).toNat = false := by
  decide +kernel

/-- A third length byte of 512; a body byte, the first check byte and the last byte of a record, with the port free, a reply in
progress and the holding area full; and records of a good and a bad check, of an unknown kind and of a wrong length. -/
theorem witness_ReceiverCollects_later :
    256 * (0x02 : Byte).toNat + (0x00 : Byte).toNat ≤ 512
    ∧ (∀ rest ∈ [[], [(2 : Byte)], [2, 0xFE, 0]], (withMgmt { MgmtPort.reset with
        rx := .receiving (0xC3 :: 0x1A :: 0 :: 3 :: rest) }).mgmt.rx = .receiving (0xC3 :: 0x1A :: 0 :: 3 :: rest)
      ∧ 256 * (0 : Byte).toNat + (3 : Byte).toNat ≤ 512 ∧ rest.length + 1 < 256 * (0 : Byte).toNat + (3 : Byte).toNat + 2)
    ∧ (∀ m ∈ [MgmtPort.reset, { MgmtPort.reset with reply := some ⟨[1], 0, 9, false⟩ },
        { MgmtPort.reset with reply := some ⟨[1], 0, 9, false⟩, holding := some ⟨0x11, [], true⟩ }],
      let s := withMgmt { m with rx := .receiving ([0xC3, 0x01] ++ be16n ([] : List Byte).length ++ [] ++ [0x9B]) }
      s.resetLow = false ∧ s.mgmt.rx = .receiving ([0xC3, 0x01] ++ be16n ([] : List Byte).length ++ [] ++ [0x9B])
      ∧ (s.mgmt.reply = none ∧ s.mgmt.holding = none ∨ s.mgmt.reply.isSome))
    ∧ [(0x9B : Byte), 0x88] = be16 (checkOf ([0xC3, 0x01] ++ be16n 0 ++ []))
    ∧ ((0x01 : Byte).toNat ∈ catalogueKinds ∧ lengthFits 0x01 [] = true ∧ lengthFits 0x01 [1] = false
      ∧ (0x07 : Byte).toNat ∉ catalogueKinds) := by decide +kernel

/-- Every request statement's premise; the clauses of each at the edges of its ranges follow. -/
theorem witness_Listens : State.reset.Listens := ⟨rfl, rfl, rfl⟩

theorem witness_Identify : State.reset.Listens := witness_Listens
theorem witness_ReadGrid : State.reset.Listens := witness_Listens
theorem witness_ReadLink : State.reset.Listens := witness_Listens

theorem witness_FlagUnitRequests :
    State.reset.Listens ∧ Request.wellFormed (.clearFlags [48, 48]) = true ∧ (∀ k ∈ [(48 : Byte), 48], k.toNat ≤ 48)
    ∧ (∃ k ∈ [(0 : Byte), 49], 48 < k.toNat) ∧ 5 < (6 : Byte).toNat ∧ 1 < (2 : Byte).toNat :=
  ⟨witness_Listens, by decide, by decide, ⟨49, by decide, by decide⟩, by decide, by decide⟩

/-- Every range's ends, and F + D equal to G and to the nominal G. -/
theorem witness_SetTiming :
    (∃ q, ((withP0 (upPort .waiting)).port q).settings.enabled = true) ∧ (∀ q, (State.reset.port q).settings.enabled = false)
    ∧ (∀ x ∈ [(16, 1, 1000, 17), (1117, 8, 8191, 1125), (1117, 8, 1000, 4095)], let f : Word := BitVec.ofNat 16 x.1
        let d : Byte := BitVec.ofNat 8 x.2.1
        let p : Word := BitVec.ofNat 16 x.2.2.1
        let g : Word := BitVec.ofNat 16 x.2.2.2
        16 ≤ f.toNat ∧ f.toNat ≤ 4095 ∧ 1 ≤ d.toNat ∧ d.toNat ≤ 8 ∧ 1000 ≤ p.toNat ∧ p.toNat ≤ 8191 ∧ 16 ≤ g.toNat
          ∧ g.toNat ≤ 4095 ∧ f.toNat + d.toNat ≤ g.toNat ∧ f.toNat + d.toNat ≤ State.reset.grid.lines)
    ∧ ¬(1118 + 8 ≤ State.reset.grid.lines) :=
  ⟨⟨.p0, rfl⟩, by intro q; cases q <;> rfl, by decide, by decide⟩

/-- The settings of section 5.9's port 0, and their wire form. -/
def liveSettings (lineLen : Nat) : Settings := { Settings.reset .p0 with enabled := true, lineLen := lineLen, resume := 1024 }
def liveFields (lineLen : Byte) : PortFields := ⟨1, 0, lineLen, 1024, 0, 1, 0, 400, 0, 8, 32⟩

theorem witness_SetPort :
    (∀ k ∈ [(1 : Nat), 75, 240], (liveSettings k).bytes = (liveFields (byteOf k)).bytes) ∧ (liveSettings 75).InRange
    ∧ (liveSettings 240).InRange ∧ 3 < (4 : Byte).toNat ∧ (0 : Byte).toNat = PortId.p0.toNat
    ∧ (State.reset.port .p0).settings.enabled = false
    ∧ ((State.reset.grid.delay + 2) * 240 ≤ 1024 ∧ 1024 < (3 + 2) * 240)
    ∧ ((State.reset.table.active.filter fun e => e.source == .port .p0).map (·.quota)).sum < 75
    ∧ ((plan.filter fun e => e.source == .port .p0).map (·.quota)).sum = 75
    ∧ ((upPort .waiting).settings.enabled = true ∧ (upPort .waiting).settings.lineLen ≠ 240
      ∧ (Settings.reset .p0).enabled = false)
    ∧ (∀ new : Settings, ¬(new.InRange ∧ new.bytes = ({ liveFields 75 with stepMax := 0 } : PortFields).bytes)) := by
  refine ⟨by decide, ?_, ?_, by decide, by decide, by decide, by decide, by decide, by decide, by decide, ?_⟩
  · constructor <;> decide
  · constructor <;> decide
  · intro new h
    have hb := h.2
    have h1 := h.1.stepMax_pos
    have h2 := h.1.stepMax_le
    simp only [Settings.bytes, PortFields.bytes, be16n, be16, List.cons_append, List.nil_append, List.cons.injEq] at hb
    have hs : byteOf new.stepMax = 0 := hb.2.2.2.2.2.2.2.2.2.2.2.2.1
    have hn : (byteOf new.stepMax).toNat = new.stepMax := by simp only [byteOf, BitVec.toNat_ofNat]; omega
    rw [hs] at hn
    simp at hn
    omega

theorem witness_PortReadAndTrim :
    State.reset.Listens ∧ 3 < (4 : Byte).toNat ∧ (3 : Byte).toNat = PortId.p3.toNat
    ∧ (-512 ≤ (0xFE00 : Word).toInt ∧ (0xFE00 : Word).toInt ≤ 511 ∧ (0x01FF : Word).toInt = 511)
    ∧ (0xFDFF : Word).toInt < -512 ∧ 511 < (0x0200 : Word).toInt := ⟨witness_Listens, by decide⟩

/-- Growing a bank of 1 to 32 by 31 entries; a write that would leave a gap; an entry of quota 0. -/
theorem witness_StageSlots :
    State.reset.Listens ∧ State.reset.table.commitPending = false ∧ busyBlocks.table.commitPending = true
    ∧ (List.replicate 31 (⟨6, 240, 3⟩ : SlotFields)).length ≤ 169
    ∧ ((1 : Byte).toNat ≤ 31 ∧ (32 : Byte).toNat ≤ 32 ∧ 1 + 31 ≤ 32 ∧ 1 ≤ State.reset.table.staged.length)
    ∧ (∀ e ∈ List.replicate 31 (⟨6, 240, 3⟩ : SlotFields), e.source.toNat ≤ 6 ∧ 1 ≤ e.quota.toNat ∧ e.quota.toNat ≤ 240
        ∧ e.priority.toNat ≤ 3)
    ∧ (State.reset.table.staged.length < 3 ∧ 1 + 1 < 3) ∧ ¬1 ≤ (⟨6, 0, 0⟩ : SlotFields).quota.toNat :=
  ⟨witness_Listens, by decide⟩

theorem witness_ReadSlots : State.reset.Listens ∧ 1 < (2 : Byte).toNat := ⟨witness_Listens, by decide⟩

/-- A priority-0 total equal to the capacity for commit (266 at P = 2640 and ceiling 5), and one beyond it. -/
theorem witness_CommitAndReadWeave :
    State.reset.Listens ∧ busyBlocks.table.commitPending = true ∧ State.reset.table.commitPending = false
    ∧ State.reset.grid.period * [3, 6, 10, 15, 20, 26].getD State.reset.link.ceiling 26 / 256 - 2 = 266
    ∧ (([⟨.fill, 240, 0⟩, ⟨.fill, 26, 0⟩] : List SlotEntry).map (·.quota)).sum ≤ 266
    ∧ ¬(([⟨.fill, 240, 0⟩, ⟨.fill, 27, 0⟩] : List SlotEntry).map (·.quota)).sum ≤ 266
    ∧ ∀ p, (State.reset.port p).settings.enabled = false :=
  ⟨witness_Listens, by decide, by decide, by decide, by decide, by decide, by intro p; cases p <;> rfl⟩

/-- A ceiling of 3 below class 4 waits; one of 4 stands; 6 is out of range. -/
theorem witness_SetLink :
    (withLink steppingLink).Listens ∧ 5 < (6 : Byte).toNat
    ∧ (steppingLink.framesRunning = true ∧ ∃ c, steppingLink.inForce = some c ∧ (3 : Byte).toNat < c)
    ∧ ¬(steppingLink.framesRunning = true ∧ ∃ c, steppingLink.inForce = some c ∧ (4 : Byte).toNat < c) :=
  ⟨⟨rfl, rfl, rfl⟩, by decide, ⟨rfl, 4, rfl, by decide⟩, by rintro ⟨_, c, h, hc⟩; cases h; exact absurd hc (by decide)⟩

/-- The last address and the broadcast; board 4, and a READ of board 7; seven and eight outstanding. -/
theorem witness_Forward :
    State.reset.Listens ∧ (⟨1, 7, 0, 4095, 1, [5]⟩ : ForwardFields).wellFormed = true
    ∧ ((4095 : Word).toNat + (1 : Byte).toNat ≤ 4096 ∧ (0 : Byte).toNat ≤ 1)
    ∧ ¬((4 : Byte).toNat ≤ 3 ∨ (4 : Byte) = 7)
    ∧ State.reset.bus.localOutstanding < 8 ∧ 8 ≤ fullBus.localOutstanding
    ∧ State.reset.bus.txn = none ∧ State.reset.bus.grantingStopped = false
    ∧ (busOf (onBus localWrite .select 0 .passed)).Listens ∧ (busOf (onBus localWrite .select 0 .passed)).bus.remoteQueue = []
    ∧ (busOf (onBus localWrite .select 0 .passed)).bus.localOutstanding < 8 :=
  ⟨witness_Listens, by decide, by decide, by decide, by decide, by decide, rfl, rfl, ⟨rfl, rfl, rfl⟩, rfl, by decide⟩

theorem witness_BusRequests :
    State.reset.Listens ∧ State.reset.bus.localReplies = [] ∧ 2 < (3 : Byte).toNat ∧ 4 < (5 : Byte).toNat
    ∧ (1 ≤ (4 : Byte).toNat ∧ (4 : Byte).toNat ≤ 4)
    ∧ (withBus { Bus.reset with localReplies := [localWrite.reply .ok 1 []] }).bus.localReplies ≠ []
    ∧ (10 ≤ (10 : Word).toNat ∧ (1000 : Word).toNat ≤ 1000 ∧ ¬10 ≤ (9 : Word).toNat ∧ ¬(9 : Byte).toNat ≤ 8) :=
  ⟨witness_Listens, by decide⟩

/-- 510 bytes that just fill the buffer, one too many, and the same in REPEAT; mailboxes at seven and at eight. -/
theorem witness_AncAndMailRequests :
    State.reset.Listens ∧ State.reset.anc.store.wf = true
    ∧ ((List.replicate 510 (1 : Byte)).length ≤ 510 ∧ State.reset.anc.mode = .stream)
    ∧ ({ AncBuffer.reset with fill := 3586 }.fill + 510 ≤ 4096 ∧ 4096 < { AncBuffer.reset with fill := 3587 }.fill + 510)
    ∧ ({ AncBuffer.reset with mode := .repeating }.mode = .repeating ∧ (3586 : Word).toNat + 510 ≤ 4096
      ∧ 4096 < (3587 : Word).toNat + 510)
    ∧ ((1 : Byte).toNat ≤ 1 ∧ (4096 : Word).toNat ∈ [32, 64, 128, 256, 512, 1024, 2048, 4096] ∧ ¬(2 : Byte).toNat ≤ 1)
    ∧ (8 ≤ busyBlocks.mail.outbox.length ∧ State.reset.mail.outbox.length < 8 ∧ (List.replicate 64 (0 : Byte)).length ≤ 64)
    ∧ State.reset.mail.inbox = [] ∧ busyBlocks.mail.inbox = [1] :: List.replicate 7 [1] :=
  ⟨witness_Listens, by decide, by decide +kernel, by decide, by decide, by decide, by decide, rfl, rfl⟩

end Sys2Proof.Tests
end

section
/-! PROOF of O24: every step keeps the servos, the slot tables, the ancillary buffer, the mailboxes and the byte stores
in their ranges. The layers: what each block's own operations keep; the frame (`State.ranged`), which most operations
leave as it was; `BlocksKept`, the preorder of the states that keep all five laws; one lemma for each event, by
composition. -/

namespace Sys2Proof.Machine

/-! ### The servos (R58, R60 to R62, R66, R68) -/

theorem le_clampInt {lo hi : Int} (h : lo ≤ hi) (x : Int) : lo ≤ clampInt lo hi x := by
  unfold clampInt
  split
  · exact Int.le_refl lo
  · split <;> omega

theorem clampInt_le {lo hi : Int} (h : lo ≤ hi) (x : Int) : clampInt lo hi x ≤ hi := by
  unfold clampInt
  split
  · exact h
  · split <;> omega

theorem sampleError_natAbs_le (target capture : Nat) : (sampleError target capture).natAbs ≤ 2047 := by
  have hlo : -2047 ≤ sampleError target capture := le_clampInt (by decide) _
  have hhi : sampleError target capture ≤ 2047 := clampInt_le (by decide) _
  omega

/-- R61: the mean of 16 samples is no larger than a sample. -/
theorem intervalMean_natAbs_le {acc : Int} (h : acc.natAbs ≤ 2047 * 16) : (intervalMean acc).natAbs ≤ 2047 := by
  have hdiv : (intervalMean acc).natAbs = acc.natAbs / 16 := Int.natAbs_tdiv acc 16
  omega

theorem Servo.InRange.clear {v : Servo} (h : v.InRange) : v.clear.InRange :=
  ⟨h.trim_ge, h.trim_le, Nat.zero_le _, Nat.zero_le _, h.lastMean⟩

/-- R68: a trim in range with the accumulator cleared. -/
theorem Servo.InRange.setTrim {v : Servo} (h : v.InRange) {trim : Int} (hge : -512 ≤ trim) (hle : trim ≤ 511) :
    Servo.InRange { v.clear with trim := trim } :=
  ⟨hge, hle, Nat.zero_le _, Nat.zero_le _, h.lastMean⟩

/-- R60: one error more moves the sum by at most 2047. -/
theorem Servo.InRange.acc_add_le {v : Servo} (h : v.InRange) (target capture : Nat) :
    (v.acc + sampleError target capture).natAbs ≤ 2047 * (v.samples + 1) := by
  have herr := sampleError_natAbs_le target capture
  have hacc := h.acc
  have hadd := Int.natAbs_add_le v.acc (sampleError target capture)
  omega

theorem Servo.InRange.addSample {v : Servo} (h : v.InRange) (target capture : Nat) (hn : v.samples + 1 < 16) :
    Servo.InRange { v with acc := v.acc + sampleError target capture, samples := v.samples + 1 } :=
  ⟨h.trim_ge, h.trim_le, by show v.samples + 1 ≤ 15; omega, h.acc_add_le target capture, h.lastMean⟩

/-- R61, R62: an interval end clamps the trim and clears the sum. -/
theorem Servo.InRange.endInterval {v : Servo} (h : v.InRange) (x : Settings) (target capture : Nat) :
    (v.endInterval x (v.acc + sampleError target capture)).InRange := by
  have hsum := h.acc_add_le target capture
  have hn := h.samples
  exact ⟨le_clampInt (by decide) _, clampInt_le (by decide) _, Nat.zero_le _, Nat.zero_le _,
    intervalMean_natAbs_le (by omega)⟩

theorem Servo.reset_inRange : Servo.reset.InRange := by constructor <;> decide

/-! ### Byte stores (R39, R142) -/

theorem Memory.Sound.nil (size : Nat) : Memory.Sound size [] := ⟨rfl, by simp⟩

theorem Memory.Sound.write {size : Nat} {m : Memory} (h : Memory.Sound size m) {a : Nat} (ha : a < size) (b : Byte) :
    Memory.Sound size (Memory.write m a b) :=
  ⟨Memory.wf_write m a b h.1, Memory.bound_write size m a b h.2 ha⟩

theorem Memory.Sound.writeList {size : Nat} {m : Memory} (h : Memory.Sound size m) {a : Nat} {bs : List Byte}
    (ha : a + bs.length ≤ size) : Memory.Sound size (Memory.writeList m a bs) :=
  ⟨Memory.wf_writeList bs m a h.1, Memory.bound_writeList size bs m a h.2 ha⟩

theorem Memory.Sound.writeRing {size : Nat} {m : Memory} (h : Memory.Sound size m) (hs : 0 < size) (a : Nat)
    (bs : List Byte) : Memory.Sound size (Memory.writeRing size m a bs) :=
  ⟨Memory.wf_writeRing size bs m a h.1, Memory.bound_writeRing size bs m a h.2 hs⟩

theorem Memory.Sound.zeroCells {size : Nat} {m : Memory} (h : Memory.Sound size m) (cells : List (Fin 1024)) :
    Memory.Sound size (m.zeroCells cells) :=
  ⟨Memory.wf_zeroCells m cells h.1, fun e he => h.2 e (List.mem_filter.1 he).1⟩

/-- R46: byte b of the FILLING descriptor's line lies in one of the 1024 cells of 32 bytes. -/
theorem Store.putByte_pool_sound (x : Store) (b : Nat) (v : Byte) (h : Memory.Sound 32768 x.pool) :
    Memory.Sound 32768 (x.putByte b v).pool := by
  unfold Store.putByte
  split
  · split
    · next c _ =>
      split
      · exact h.write (by have hc := c.isLt; omega) v
      · exact h
    · exact h
  · exact h

theorem Store.sendOldest_pool (x : Store) : x.sendOldest.pool = x.pool := by
  unfold Store.sendOldest
  split <;> rfl

/-! ### The Weave Table (R70, R71, R73) -/

theorem SlotFields.entry?_inRange {f : SlotFields} {e : SlotEntry} (h : f.entry? = some e) : e.InRange := by
  unfold SlotFields.entry? at h
  split at h
  · split at h
    · next hr =>
      cases h
      exact hr
    · cases h
  · cases h

/-- What every result of a function has, every entry of a mapped list has. -/
theorem forall_mem_of_mapM_eq_some {α β : Type} {f : α → Option β} {P : β → Prop}
    (hf : ∀ a b, f a = some b → P b) {as : List α} {bs : List β} (h : as.mapM f = some bs) : ∀ b ∈ bs, P b := by
  induction as generalizing bs with
  | nil =>
    cases h
    simp
  | cons a as ih =>
    simp only [List.mapM_cons, Option.bind_eq_bind, Option.bind_eq_some_iff] at h
    obtain ⟨b, hb, cs, hcs, hbs⟩ := h
    cases hbs
    exact List.forall_mem_cons.2 ⟨hf a b hb, ih hcs⟩

/-- R73: a write in range leaves 1 to 32 entries, each of the old bank or of the write. -/
theorem BankSound.stagedAfter {bank entries : List SlotEntry} {first newLen k : Nat} (h : BankSound bank)
    (hin : stageInRange bank.length first newLen k = true) (he : ∀ e ∈ entries, e.InRange) :
    BankSound (stagedAfter bank first newLen entries) := by
  simp only [stageInRange, Bool.and_eq_true, decide_eq_true_eq] at hin
  obtain ⟨⟨⟨⟨⟨⟨-, hpos⟩, hmax⟩, -⟩, -⟩, -⟩, -⟩ := hin
  have hlen : (Machine.stagedAfter bank first newLen entries).length
      = min newLen (min first bank.length + entries.length + (bank.length - (first + entries.length))) := by
    simp [Machine.stagedAfter, Nat.add_assoc]
  have hbank := h.nonempty
  refine ⟨by omega, by omega, fun e hm => ?_⟩
  have hsrc : (e ∈ bank.take first ∨ e ∈ entries) ∨ e ∈ bank.drop (first + entries.length) := by
    simpa only [List.mem_append] using List.mem_of_mem_take hm
  rcases hsrc with (hm | hm) | hm
  · exact h.entries e (List.mem_of_mem_take hm)
  · exact he e hm
  · exact h.entries e (List.mem_of_mem_drop hm)

theorem WeaveTable.reset_lawful : WeaveTable.reset.Lawful := by
  have h : BankSound [⟨.fill, 1, 0⟩] := ⟨by decide, by decide, by simp [SlotEntry.InRange]⟩
  exact ⟨h, h⟩

/-! ### The Ancillary Buffer (R142 to R146) -/

/-- Every repeat window has room for a position. -/
theorem repeatWindows_pos {w : Nat} (h : w ∈ repeatWindows) : 0 < w := by
  have hall : ∀ w ∈ repeatWindows, 0 < w := by decide
  exact hall w h

/-- R146: a frame start takes the repeat position back to 0. -/
theorem AncBuffer.Lawful.rewind {a : AncBuffer} (h : a.Lawful) : AncBuffer.Lawful { a with repeatPos := 0 } :=
  { h with repeatPos := repeatWindows_pos h.window }

/-- R145: in STREAM the allowance of a period lies within what is queued. -/
theorem AncBuffer.Lawful.allow {a : AncBuffer} (h : a.Lawful) (cells : Nat) :
    AncBuffer.Lawful { a with allowance := a.allowanceFor cells } :=
  { h with stream := fun hm => by simp only [AncBuffer.allowanceFor, show a.mode = .stream from hm]; omega }

theorem AncBuffer.afterCell_store (a : AncBuffer) : a.afterCell.store = a.store := by
  unfold AncBuffer.afterCell
  simp only
  split <;> rfl

/-- R145, R146: an ANC cell takes at most the allowance, from what is queued in STREAM, by position in REPEAT. -/
theorem AncBuffer.Lawful.afterCell {a : AncBuffer} (h : a.Lawful) : a.afterCell.Lawful := by
  have hfill := h.fill
  unfold AncBuffer.afterCell
  simp only
  split
  · next hm =>
    have hall := h.stream hm
    exact ⟨by show a.fill - _ ≤ 4096; omega, Nat.mod_lt _ (by decide), h.window, h.repeatPos,
      fun _ => by show a.allowance - _ ≤ a.fill - _; omega, fun hr => by cases hm.symm.trans hr⟩
  · next hm =>
    exact ⟨hfill, h.readPoint, h.window, Nat.mod_lt _ (repeatWindows_pos h.window),
      (fun hs => by cases hm.symm.trans hs), h.repeating⟩

/-- R143: a mode and window set, nothing queued. -/
theorem AncBuffer.lawful_setMode (store : Memory) (mode : AncMode) {window : Nat} (hw : window ∈ repeatWindows) :
    AncBuffer.Lawful ⟨store, mode, 0, 0, window, 0, 0⟩ :=
  ⟨by simp, by simp, hw, repeatWindows_pos hw, fun _ => Nat.le_refl 0, fun _ => rfl⟩

/-- R144: bytes queued in STREAM while they fit. -/
theorem AncBuffer.Lawful.queue {a : AncBuffer} (h : a.Lawful) (hm : a.mode = .stream) (store : Memory) {k : Nat}
    (hk : a.fill + k ≤ 4096) : AncBuffer.Lawful { a with store := store, fill := a.fill + k } :=
  { h with
    fill := hk
    stream := fun _ => by have hall := h.stream hm; show a.allowance ≤ a.fill + k; omega
    repeating := fun hr => by cases hm.symm.trans hr }

/-- The laws do not look at the bytes stored. -/
theorem AncBuffer.Lawful.store {a : AncBuffer} (h : a.Lawful) (store : Memory) :
    AncBuffer.Lawful { a with store := store } :=
  { h with }

theorem AncBuffer.reset_lawful : AncBuffer.reset.Lawful := by constructor <;> decide

/-! ### The Mailboxes (R147) -/

/-- The laws look at the two boxes alone. -/
theorem Mailboxes.Lawful.of_boxes {m n : Mailboxes} (h : m.Lawful) (hin : n.inbox = m.inbox)
    (hout : n.outbox = m.outbox) : n.Lawful :=
  ⟨hin ▸ h.inbox, hout ▸ h.outbox, hout ▸ h.bodies⟩

theorem Mailboxes.Lawful.receive {m : Mailboxes} (h : m.Lawful) (hroom : m.inbox.length < 8) (body : List Byte) :
    Mailboxes.Lawful { m with inbox := m.inbox ++ [body] } :=
  { h with inbox := by rw [List.length_append]; exact hroom }

theorem Mailboxes.Lawful.fetch {m : Mailboxes} (h : m.Lawful) {body : List Byte} {rest : List (List Byte)}
    (hm : m.inbox = body :: rest) : Mailboxes.Lawful { m with inbox := rest } :=
  { h with inbox := by have hlen := h.inbox; rw [hm, List.length_cons] at hlen; show rest.length ≤ 8; omega }

theorem Mailboxes.Lawful.send {m : Mailboxes} (h : m.Lawful) (hroom : m.outbox.length < 8) {body : List Byte}
    (hb : body.length ≤ 64) : Mailboxes.Lawful { m with outbox := m.outbox ++ [body] } :=
  ⟨h.inbox, by rw [List.length_append]; exact hroom,
    List.forall_mem_append.2 ⟨h.bodies, List.forall_mem_singleton.2 hb⟩⟩

theorem Mailboxes.Lawful.sent {m : Mailboxes} (h : m.Lawful) : Mailboxes.Lawful { m with outbox := m.outbox.tail } :=
  ⟨h.inbox, by have hlen := h.outbox; simp only [List.length_tail]; omega,
    fun b hb => h.bodies b (List.mem_of_mem_tail hb)⟩

theorem Mailboxes.reset_lawful : Mailboxes.reset.Lawful := by constructor <;> decide

/-! ### The generic checks of a MAIL-SEND (R147, R155) -/

theorem emptyBody_eq_some {q r : Request} {bytes : List Byte} (h : emptyBody q bytes = some r) : r = q := by
  unfold emptyBody at h
  split at h <;> cases h
  rfl

theorem parseOne_eq_some {f : Byte → Request} {r : Request} {bytes : List Byte} (h : parseOne f bytes = some r) :
    ∃ b, r = f b := by
  unfold parseOne at h
  split at h <;> cases h
  exact ⟨_, rfl⟩

theorem parseByteWord_eq_some {f : Byte → Word → Request} {r : Request} {bytes : List Byte}
    (h : parseByteWord f bytes = some r) : ∃ b w, r = f b w := by
  unfold parseByteWord at h
  split at h <;> cases h
  exact ⟨_, _, rfl⟩

theorem parseMailSend_eq_some {r : Request} {bytes : List Byte} (h : parseMailSend bytes = some r) :
    r = .mailSend bytes ∧ bytes.length ≤ 64 := by
  unfold parseMailSend at h
  split at h <;> cases h
  exact ⟨rfl, ‹_›⟩

/-- R147: a MAIL-SEND brings at most 64 bytes. -/
def MailFits : Request → Prop
  | .mailSend body => body.length ≤ 64
  | _ => True

/-- R155 check 3: of the catalogue's parsers only MAIL-SEND's answers a MAIL-SEND, and it checks the length. -/
theorem bodyParser?_mailFits {kind : Byte} {parse : List Byte → Option Request} {bytes : List Byte} {q : Request}
    (hk : bodyParser? kind = some parse) (hp : parse bytes = some q) : MailFits q := by
  unfold bodyParser? at hk
  split at hk <;> cases hk
  case h_1 | h_2 | h_6 | h_8 | h_14 | h_15 | h_17 | h_25 =>
    cases emptyBody_eq_some hp
    trivial
  case h_10 | h_13 | h_19 | h_20 =>
    obtain ⟨b, rfl⟩ := parseOne_eq_some hp
    trivial
  case h_11 | h_16 | h_22 =>
    obtain ⟨b, w, rfl⟩ := parseByteWord_eq_some hp
    trivial
  case h_4 | h_5 | h_7 | h_9 | h_21 =>
    simp only [parseSetAttnMask, parseReadCounters, parseSetTiming, parseSetPort, parseSetBus] at hp
    split at hp <;> cases hp
    trivial
  case h_3 | h_12 | h_18 | h_23 =>
    simp only [parseClearFlags, parseStageSlots, parseForward, parseAncLoad] at hp
    split at hp
    · simp only [Option.ite_none_right_eq_some, Option.some.injEq] at hp
      obtain ⟨-, rfl⟩ := hp
      trivial
    · cases hp
  case h_24 =>
    obtain ⟨rfl, hlen⟩ := parseMailSend_eq_some hp
    exact hlen

/-- R155: what passes the generic checks meets the length of its kind, a MAIL-SEND that of R147. -/
theorem parseRecord_mailFits {r : ReqRecord} {q : Request} (h : parseRecord r = .ok q) : MailFits q := by
  unfold parseRecord at h
  split at h
  · cases h
  · split at h
    · cases h
    · next hk =>
      split at h <;> cases h
      exact bodyParser?_mailFits hk ‹_›

end Sys2Proof.Machine
end

section
/-! What the five laws read, the operations that leave it as it was, and the preorder of the steps that keep the
laws. -/

namespace Sys2Proof.Machine

/-! ### The frame -/

/-- The items the five laws read. -/
def State.ranged (s : State) : Quad Port × WeaveTable × AncBuffer × List (List Byte) × List (List Byte) :=
  (s.ports, s.table, s.anc, s.mail.inbox, s.mail.outbox)

@[simp] theorem State.ranged_setFlag (s : State) (f : Flag) : (s.setFlag f).ranged = s.ranged := rfl
@[simp] theorem State.ranged_countPort (s : State) (p : PortId) (f : PortCounters → PortCounters) :
    (s.countPort p f).ranged = s.ranged := rfl
@[simp] theorem State.ranged_countLink (s : State) (f : LinkCounters → LinkCounters) :
    (s.countLink f).ranged = s.ranged := rfl
@[simp] theorem State.ranged_countBus (s : State) (f : BusCounters → BusCounters) :
    (s.countBus f).ranged = s.ranged := rfl
@[simp] theorem State.ranged_onGrid (s : State) (f : Grid → Grid) : (s.onGrid f).ranged = s.ranged := rfl
@[simp] theorem State.ranged_onLink (s : State) (f : Link → Link) : (s.onLink f).ranged = s.ranged := rfl
@[simp] theorem State.ranged_onBus (s : State) (f : Bus → Bus) : (s.onBus f).ranged = s.ranged := rfl
@[simp] theorem ranged_evalHold (s : State) : (evalHold s).ranged = s.ranged := rfl
@[simp] theorem ranged_setSending (p : PortId) (m : Option SendingMark) (s : State) :
    (setSending p m s).ranged = s.ranged := rfl
@[simp] theorem ranged_setOutcome (p : PortId) (o : TakeOutcome) (s : State) :
    (setOutcome p o s).ranged = s.ranged := rfl
@[simp] theorem ranged_setBusTxn (t : BusTxn) (s : State) : (setBusTxn t s).ranged = s.ranged := rfl
@[simp] theorem ranged_setAssembly (a : Assembly) (s : State) : (setAssembly a s).ranged = s.ranged := rfl
@[simp] theorem ranged_framesStop (s : State) : (framesStop s).ranged = s.ranged := rfl

@[simp] theorem State.ranged_setFlagIf (s : State) (c : Bool) (f : Flag) : (s.setFlagIf c f).ranged = s.ranged := by
  cases c <;> rfl

/-! ### The board bus leaves them -/

theorem ranged_grantRemote (e : RemoteEntry) (rest : List RemoteEntry) (s : State) :
    (grantRemote e rest s).ranged = s.ranged := by
  unfold grantRemote
  simp only
  split
  · split <;> rfl
  · rfl

theorem ranged_busAct {s t : State} (h : busAct s = some t) : t.ranged = s.ranged := by
  rcases busAct_cases h with ⟨e, rest, -, -, rfl⟩ | h
  · rfl
  · rcases arbitrate_cases h with ⟨-, -, ⟨x, rest, -, rfl, -⟩ | ⟨e, rest, -, rfl, -⟩⟩
    · rfl
    · exact ranged_grantRemote e rest s

@[simp] theorem ranged_settleBus (s : State) : (settleBus s).ranged = s.ranged :=
  settleBus_keeps State.ranged (fun _ _ => ranged_busAct) s

@[simp] theorem ranged_sendOrAwait (t : BusTxn) (s : State) : (sendOrAwait t s).ranged = s.ranged := by
  unfold sendOrAwait
  split <;> rfl

@[simp] theorem ranged_countResult (r : BusResult) (s : State) : (countResult r s).ranged = s.ranged := by
  cases r <;> rfl

@[simp] theorem ranged_placeReply (record : RecordStatus) (r : BusReply) (s : State) :
    (placeReply record r s).ranged = s.ranged := by
  cases record <;> rfl

@[simp] theorem ranged_enterAnswer (t : BusTxn) (s : State) : (enterAnswer t s).ranged = s.ranged := rfl

@[simp] theorem ranged_endTxn (t : BusTxn) (result : BusResult) (done : Nat) (s : State) :
    (endTxn t result done s).ranged = s.ranged := by
  simp [endTxn]

@[simp] theorem ranged_underrun (t : BusTxn) (s : State) : (underrun t s).ranged = s.ranged := by
  simp [underrun]

theorem ranged_wordEnded (t : BusTxn) (s : State) : (wordEnded t s).ranged = s.ranged := by
  unfold wordEnded
  split
  · split <;> simp
  · dsimp only
    split
    · simp
    · split <;> simp
  · rfl
  · rfl

theorem ranged_boardAnswered (t : BusTxn) (a : BoardAnswer) (s : State) : (boardAnswered t a s).ranged = s.ranged := by
  unfold boardAnswered
  split
  · split
    · cases a <;> simp
    · split
      · rfl
      · cases a <;> simp
  · rfl
  · rfl
  · rfl

theorem ranged_wordRead (t : BusTxn) (w : Word) (s : State) : (wordRead t w s).ranged = s.ranged := by
  unfold wordRead
  split
  · dsimp only
    split <;> simp
  · rfl

theorem ranged_waitExpired (t : BusTxn) (s : State) : (waitExpired t s).ranged = s.ranged := by
  unfold waitExpired
  split <;> simp

theorem ranged_withBusTxn {f : BusTxn → State → State} (hf : ∀ t s, (f t s).ranged = s.ranged) (s : State) :
    (withBusTxn f s).ranged = s.ranged := by
  unfold withBusTxn
  split
  · exact hf _ s
  · rfl

/-! ### The records of the uplink leave them, but for a mail received -/

@[simp] theorem ranged_feedRemote (inBody : Bool) (b : Byte) (s : State) :
    (feedRemote inBody b s).ranged = s.ranged := by
  unfold feedRemote
  split
  · simp
  · split
    · split
      · unfold feedBusTxn
        dsimp only
        split <;> simp
      · rfl
    · rfl

@[simp] theorem ranged_reportRecordEnd (r : RecordEnd) (s : State) : (reportRecordEnd r s).ranged = s.ranged := by
  unfold reportRecordEnd
  split
  · cases r <;> rfl
  · unfold remoteRecordEnded
    split
    · rw [ranged_settleBus]
      split <;> rfl
    · split
      · split <;> rfl
      · rfl

@[simp] theorem ranged_acceptRemote (bodyLen : Nat) (s : State) : (acceptRemote bodyLen s).ranged = s.ranged := rfl
@[simp] theorem ranged_dropRemote (s : State) : (dropRemote s).ranged = s.ranged := rfl
@[simp] theorem ranged_dropMail (s : State) : (dropMail s).ranged = s.ranged := rfl

@[simp] theorem ranged_abandonRecord (s : State) : (abandonRecord s).ranged = s.ranged := by
  rcases abandonRecord_cases s with ⟨-, e⟩ | e | e | e <;> rw [e]
  · rfl
  · rfl
  · simp

@[simp] theorem ranged_routeRecord (r : RecordIn) (s : State) : (routeRecord r s).ranged = s.ranged := by
  unfold routeRecord
  split
  · split <;> rfl
  · split <;> rfl
  · rfl

/-! ### The link's blocks leave them -/

theorem ranged_linkLoss (s : State) : (linkLoss s).ranged = s.ranged := by simp [linkLoss]

theorem ranged_takeFailedBlock (s : State) : (takeFailedBlock s).ranged = s.ranged := by
  unfold takeFailedBlock
  dsimp only
  split
  · simp
  · split
    · simp [ranged_linkLoss]
    · simp

@[simp] theorem ranged_goodBlock (s : State) : (goodBlock s).ranged = s.ranged := rfl

theorem ranged_takeOffer (k : Nat) (s : State) : (takeOffer k s).ranged = s.ranged := by
  unfold takeOffer
  dsimp only
  split <;> simp

theorem ranged_takeStart (k : Nat) (s : State) : (takeStart k s).ranged = s.ranged := rfl

theorem ranged_takeHealth (e : Nat) (s : State) : (takeHealth e s).ranged = s.ranged := by
  unfold takeHealth
  dsimp only
  split
  · unfold healthDecision
    dsimp only
    split
    · split <;> simp
    · split <;> simp
  · rfl

/-! ### The preorder -/

/-- Of a port: the servo stays in range, and the cell bytes in canonical form. -/
structure PortKept (q r : Port) : Prop where
  servo : q.servo.InRange → r.servo.InRange
  pool : Memory.Sound 32768 q.store.pool → Memory.Sound 32768 r.store.pool

theorem PortKept.of_eq {q r : Port} (servo : r.servo = q.servo) (pool : r.store.pool = q.store.pool) : PortKept q r :=
  ⟨fun h => servo ▸ h, fun h => pool ▸ h⟩

theorem PortKept.of_servo {q r : Port} (servo : q.servo.InRange → r.servo.InRange)
    (pool : r.store.pool = q.store.pool) : PortKept q r :=
  ⟨servo, fun h => pool ▸ h⟩

theorem PortKept.refl (q : Port) : PortKept q q := .of_eq rfl rfl

theorem PortKept.trans {q r x : Port} (h : PortKept q r) (h' : PortKept r x) : PortKept q x :=
  ⟨h'.servo ∘ h.servo, h'.pool ∘ h.pool⟩

/-- R39, R58, R70, R142, R147: from one state to another, each law that held holds still, each on its own. -/
structure BlocksKept (s t : State) : Prop where
  port : ∀ p, PortKept (s.port p) (t.port p)
  table : s.table.Lawful → t.table.Lawful
  anc : s.anc.Lawful → t.anc.Lawful
  ancStore : Memory.Sound 4096 s.anc.store → Memory.Sound 4096 t.anc.store
  mail : s.mail.Lawful → t.mail.Lawful

theorem BlocksKept.trans {s t u : State} (h : BlocksKept s t) (h' : BlocksKept t u) : BlocksKept s u :=
  ⟨fun p => (h.port p).trans (h'.port p), h'.table ∘ h.table, h'.anc ∘ h.anc, h'.ancStore ∘ h.ancStore,
    h'.mail ∘ h.mail⟩

/-- What leaves the items the laws read keeps the laws. -/
theorem BlocksKept.of_ranged {s t : State} (h : t.ranged = s.ranged) : BlocksKept s t := by
  simp only [State.ranged, Prod.mk.injEq] at h
  obtain ⟨hports, htable, hanc, hin, hout⟩ := h
  refine ⟨fun p => ?_, fun h => htable ▸ h, fun h => hanc ▸ h, fun h => hanc ▸ h, fun h => h.of_boxes hin hout⟩
  simp only [State.port, hports]
  exact PortKept.refl _

theorem BlocksKept.then_ranged {s t u : State} (h : BlocksKept s t) (hu : u.ranged = t.ranged) : BlocksKept s u :=
  h.trans (.of_ranged hu)

theorem BlocksKept.after_ranged {s t u : State} (h : BlocksKept t u) (ht : t.ranged = s.ranged) : BlocksKept s u :=
  .trans (.of_ranged ht) h

theorem BlocksKept.refl (s : State) : BlocksKept s s := .of_ranged rfl

/-- What keeps the laws under a condition, and else does nothing. -/
theorem BlocksKept.ite {c : Prop} [Decidable c] {s t : State} (h : BlocksKept s t) :
    BlocksKept s (if c then t else s) := by
  split
  · exact h
  · exact .refl s

/-- A change of the ports alone keeps the laws when it keeps those of every port. -/
theorem BlocksKept.of_ports {s t : State} (port : ∀ p, PortKept (s.port p) (t.port p))
    (rest : t.ranged.2 = s.ranged.2) : BlocksKept s t := by
  have h : BlocksKept s { t with ports := s.ports } := .of_ranged (Prod.ext rfl rest)
  exact { h with port := port }

/-- A change of one port keeps the laws when it keeps that port's. -/
theorem BlocksKept.onPort {s : State} {p : PortId} {f : Port → Port} (h : PortKept (s.port p) (f (s.port p))) :
    BlocksKept s (s.onPort p f) := by
  refine .of_ports (fun r => ?_) rfl
  by_cases hr : r = p
  · subst hr
    rw [State.port_onPort_same]
    exact h
  · rw [State.port_onPort_ne s p r f hr]
    exact PortKept.refl _

/-- A change of the lane, the call bookkeeping or the settings of a port keeps the laws. -/
theorem BlocksKept.onPort_of_eq {s : State} {p : PortId} {f : Port → Port}
    (servo : (f (s.port p)).servo = (s.port p).servo) (pool : (f (s.port p)).store.pool = (s.port p).store.pool) :
    BlocksKept s (s.onPort p f) :=
  .onPort (.of_eq servo pool)

theorem BlocksKept.of_table {s t : State} (h : s.table.Lawful → t.table.Lawful) (hp : t.ports = s.ports)
    (hrest : t.ranged.2.2 = s.ranged.2.2) : BlocksKept s t := by
  have hk : BlocksKept s { t with table := s.table } := .of_ranged (Prod.ext hp (Prod.ext rfl hrest))
  exact { hk with table := h }

theorem BlocksKept.of_mail {s t : State} (h : s.mail.Lawful → t.mail.Lawful) (hp : t.ports = s.ports)
    (ht : t.table = s.table) (ha : t.anc = s.anc) : BlocksKept s t := by
  have hk : BlocksKept s { t with mail := s.mail } := .of_ranged (Prod.ext hp (Prod.ext ht (Prod.ext ha rfl)))
  exact { hk with mail := h }

theorem BlocksKept.of_anc {s : State} {a : AncBuffer} (h : s.anc.Lawful → a.Lawful)
    (hstore : Memory.Sound 4096 s.anc.store → Memory.Sound 4096 a.store) : BlocksKept s { s with anc := a } :=
  { BlocksKept.refl s with anc := h, ancStore := hstore }

/-- What each port's event keeps is kept by the event of every port. -/
theorem BlocksKept.forPorts {f : PortId → State → State} (hf : ∀ p s, BlocksKept s (f p s)) (s : State) :
    BlocksKept s (forPorts f s) :=
  forPorts_induct (BlocksKept s) f (fun p t h => h.trans (hf p t)) s (.refl s)

end Sys2Proof.Machine
end

section
/-! Each event keeps the laws: the uplink's records, the lanes, the line starts, the downlink, the requests,
the resets. -/

namespace Sys2Proof.Machine

/-! ### The uplink's records (R117 to R119) -/

/-- R119: a mail goes into the inbox while it has fewer than 8. -/
theorem mailEnded_keepsBlocks (pass : Bool) (r : RecordIn) (s : State) : BlocksKept s (mailEnded pass r s) := by
  unfold mailEnded
  split
  · next hroom =>
    simp only [Bool.and_eq_true, decide_eq_true_eq] at hroom
    have hin : BlocksKept s { s with mail := { s.mail with inbox := s.mail.inbox ++ [r.mail] } } :=
      .of_mail (fun h => h.receive hroom.2 r.mail) rfl rfl rfl
    exact hin.then_ranged (ranged_evalHold _)
  · exact .of_ranged (ranged_dropMail s)

theorem endRecord_keepsBlocks (r : RecordIn) (short : Bool) (s : State) : BlocksKept s (endRecord r short s) := by
  have hidle : BlocksKept s (setAssembly .idle s) := .of_ranged rfl
  unfold endRecord
  dsimp only
  split
  · split
    · exact hidle.then_ranged (ranged_reportRecordEnd _ _)
    · exact hidle.trans (mailEnded_keepsBlocks _ r _)
    · exact hidle
  · exact hidle

theorem recordByte_keepsBlocks (r : RecordIn) (b : Byte) (s : State) : BlocksKept s (recordByte r b s) := by
  unfold recordByte
  dsimp only
  split
  · split <;> exact .of_ranged (by simp)
  · split
    · split <;> exact .of_ranged (by simp)
    · split
      · exact (endRecord_keepsBlocks _ false _).after_ranged (by split <;> simp)
      · exact .of_ranged (by split <;> simp)

theorem payloadByte_keepsBlocks (s : State) (b : Byte) : BlocksKept s (payloadByte s b) := by
  unfold payloadByte
  split
  · exact recordByte_keepsBlocks _ b s
  · exact .refl s
  · exact .refl s

theorem payload_keepsBlocks (bytes : List Byte) (s : State) : BlocksKept s (bytes.foldl payloadByte s) := by
  induction bytes generalizing s with
  | nil => exact .refl s
  | cons b bytes ih => exact (payloadByte_keepsBlocks s b).trans (ih _)

theorem lastMark_keepsBlocks (s : State) : BlocksKept s (lastMark s) := by
  unfold lastMark
  split
  · exact endRecord_keepsBlocks _ true s
  · exact .of_ranged rfl
  · exact .refl s

theorem takeSegment_keepsBlocks (marks len : Byte) (payload : List Byte) (s : State) :
    BlocksKept s (takeSegment marks len payload s) := by
  have hfirst : BlocksKept s (setAssembly (.collecting RecordIn.fresh) (abandonRecord s)) := .of_ranged (by simp)
  unfold takeSegment
  split
  · exact .refl s
  · exact (hfirst.ite.trans (payload_keepsBlocks _ _)).trans (.ite (lastMark_keepsBlocks _))

/-! ### The lanes and the line calls (R18 to R38) -/

/-- R59 to R62: a sample. -/
theorem servoSample_keepsBlocks (p : PortId) (capture : Nat) (s : State) : BlocksKept s (servoSample p capture s) := by
  unfold servoSample
  dsimp only
  split
  · exact .refl s
  · split
    · next hn => exact .onPort (.of_servo (fun h => h.addSample _ capture hn) rfl)
    · refine .then_ranged ?_ ((State.ranged_setFlagIf _ _ _).trans (State.ranged_setFlagIf _ _ _))
      exact .onPort (.of_servo (fun h => h.endInterval _ _ capture) rfl)

theorem laneLoss_keepsBlocks (p : PortId) (s : State) : BlocksKept s (laneLoss p s) := by
  have hloss : ∀ u : State, BlocksKept u (u.onPort p Port.afterLoss) :=
    fun u => .onPort (.of_servo (fun h => h.clear) rfl)
  unfold laneLoss
  refine .then_ranged (.trans (.ite ?_) (hloss _)) (State.ranged_setFlag _ _)
  exact .of_ranged (State.ranged_countPort s p _)

theorem startAcquiring_keepsBlocks (p : PortId) (s : State) :
    BlocksKept s (s.onPort p fun q => q.onLane Lane.startAcquiring) :=
  .onPort_of_eq rfl rfl

theorem reacquire_keepsBlocks (p : PortId) (s : State) : BlocksKept s (reacquire p s) :=
  .ite (startAcquiring_keepsBlocks p s)

theorem countWithheld_keepsBlocks (p : PortId) (s : State) : BlocksKept s (countWithheld p s) := .of_ranged rfl

theorem callNotice_keepsBlocks (p : PortId) (d : DueCall) (s : State) : BlocksKept s (callNotice p d s) := by
  have hmark : BlocksKept s (s.onPort p fun q => { q with pendingCall := false }) := .onPort_of_eq rfl rfl
  unfold callNotice
  dsimp only
  split
  · split
    · exact hmark.trans (.onPort_of_eq rfl rfl)
    · exact (hmark.trans (.onPort_of_eq rfl rfl)).trans (countWithheld_keepsBlocks p _)
  · exact hmark

theorem deliverCall_keepsBlocks (p : PortId) (s : State) : BlocksKept s (deliverCall p s) := by
  unfold deliverCall
  split
  · exact (callNotice_keepsBlocks p _ _).after_ranged rfl
  · exact .refl s

theorem setRx_keepsBlocks (p : PortId) (rx : Reception) (s : State) :
    BlocksKept s (setRx p rx s) := .onPort_of_eq rfl rfl

theorem countStray_keepsBlocks (p : PortId) (s : State) : BlocksKept s (countStray p s) := .of_ranged rfl

/-- R45: an admission zeroes cells. -/
theorem matchHeader_keepsBlocks (p : PortId) (h : PacketHeader) (bytes : List Byte) (older : List CallEntry)
    (e : CallEntry) (newer : List CallEntry) (s : State) : BlocksKept s (matchHeader p h bytes older e newer s) := by
  unfold matchHeader
  dsimp only
  have hcount : BlocksKept s (s.countPort p fun c =>
      { c with
        unanswered := addSat c.unanswered older.length
        truncated := if (s.port p).settings.lineLen < h.count then bump c.truncated else c.truncated }) :=
    .of_ranged rfl
  have hadmit := fun f hf => hcount.trans (BlocksKept.onPort (p := p) (f := f) hf)
  split
  · refine .trans (hadmit _ ⟨fun hs => hs, fun hm => hm.zeroCells _⟩) (servoSample_keepsBlocks p _ _)
  · exact hadmit _ ⟨fun hs => hs, fun hm => hm.zeroCells _⟩

theorem headerDone_keepsBlocks (p : PortId) (bytes : List Byte) (h : PacketHeader) (s : State) :
    BlocksKept s (headerDone p bytes h s) := by
  have hstray : BlocksKept s (setRx p .discarding (countStray p s)) :=
    (countStray_keepsBlocks p s).trans (setRx_keepsBlocks p _ _)
  unfold headerDone
  dsimp only
  split
  · exact hstray
  · split
    · exact hstray
    · exact matchHeader_keepsBlocks p h bytes _ _ _ s

theorem headerByte_keepsBlocks (p : PortId) (bytes : List Byte) (b : Byte) (s : State) :
    BlocksKept s (headerByte p bytes b s) := by
  unfold headerByte
  split
  · exact headerDone_keepsBlocks p _ _ s
  · exact setRx_keepsBlocks p _ s

theorem tailCapture_keepsBlocks (p : PortId) (k : Packet) (s : State) : BlocksKept s (tailCapture p k s) :=
  .trans (.onPort_of_eq rfl rfl) (servoSample_keepsBlocks p _ _)

/-- R46: a payload byte goes into the FILLING descriptor's cells. -/
theorem storeByte_keepsBlocks (p : PortId) (k : Packet) (b : Byte) (errored : Bool) (s : State) :
    BlocksKept s (storeByte p k b errored s) := by
  have hput : ∀ u : State, BlocksKept u (u.onPort p fun q => q.onStore fun x => x.putByte k.received b) :=
    fun u => .onPort ⟨fun hs => hs, Store.putByte_pool_sound _ _ b⟩
  exact ((setRx_keepsBlocks p _ s).trans (.ite (hput _))).trans (.ite (tailCapture_keepsBlocks p k _))

theorem endPacket_keepsBlocks (p : PortId) (k : Packet) (s : State) : BlocksKept s (endPacket p k s) := by
  unfold endPacket
  exact .onPort_of_eq rfl rfl

theorem beginPacket_keepsBlocks (p : PortId) (s : State) : BlocksKept s (beginPacket p s) := setRx_keepsBlocks p _ s

theorem receive_keepsBlocks (p : PortId) (sym : LaneSymbol) (s : State) : BlocksKept s (receive p sym s) := by
  have hstray := fun rx => (countStray_keepsBlocks p s).trans (setRx_keepsBlocks p rx _)
  unfold receive
  split
  case h_1 =>
    cases sym with
    | startDelim => exact beginPacket_keepsBlocks p s
    | _ => exact .refl s
  case h_2 bytes _ =>
    cases sym with
    | idle => exact .refl s
    | data b => exact headerByte_keepsBlocks p bytes b s
    | _ => exact hstray _
  case h_3 =>
    cases sym with
    | startDelim => exact beginPacket_keepsBlocks p s
    | endDelim => exact setRx_keepsBlocks p _ s
    | _ => exact .refl s
  case h_4 k _ =>
    have hend := fun rx => (endPacket_keepsBlocks p k s).trans (setRx_keepsBlocks p rx _)
    cases sym with
    | idle => exact .refl s
    | data b => exact storeByte_keepsBlocks p k b false s
    | errored => exact storeByte_keepsBlocks p k 0 true s
    | _ => exact hend _

theorem upSymbol_keepsBlocks (p : PortId) (sym : LaneSymbol) (s : State) : BlocksKept s (upSymbol p sym s) := by
  have hages : BlocksKept s (s.onPort p fun q => q.onLane fun l =>
      { l with errorAges := windowAfter (s.port p).lane.errorAges (sym == .errored) }) := .onPort_of_eq rfl rfl
  unfold upSymbol
  dsimp only
  split
  · exact hages.trans ((laneLoss_keepsBlocks p _).trans (reacquire_keepsBlocks p _))
  · exact hages.trans (receive_keepsBlocks p sym _)

/-! ### The line start (R11 to R13, R78 to R90, R112, R145, R146) -/

/-- R27, R30, R66: the line-start notice clears the servo at a realign. -/
theorem portNotice_keepsBlocks (nt : LineNotice) (p : PortId) (s : State) : BlocksKept s (portNotice nt p s) := by
  have hclear : ∀ u : State, BlocksKept u (u.onPort p fun q => q.onServo Servo.clear) :=
    fun u => .onPort (.of_servo (fun h => h.clear) rfl)
  have hmark : ∀ u : State, BlocksKept u (u.onPort p fun q => { q with pendingCall := true }) :=
    fun u => .onPort_of_eq rfl rfl
  exact ((countWithheld_keepsBlocks p s).ite.trans (.ite (hclear _))).trans (.ite (hmark _))

theorem releaseLine_keepsBlocks (p : PortId) (s : State) : BlocksKept s (releaseLine p s) :=
  .trans (.onPort_of_eq rfl rfl) (.of_ranged (ranged_setSending _ _ _))

theorem purgeAndPrune_keepsBlocks (p : PortId) (wanted : LineCount) (s : State) :
    BlocksKept s (purgeAndPrune p wanted s) := by
  unfold purgeAndPrune
  exact .after_ranged (.onPort_of_eq rfl rfl) (State.ranged_countPort _ _ _)

theorem ranged_countLostCells (p : PortId) (d : Descriptor) (s : State) : (countLostCells p d s).ranged = s.ranged := by
  unfold countLostCells
  split
  · split <;> rfl
  · rfl

theorem sendLine_keepsBlocks (p : PortId) (d : Descriptor) (s : State) : BlocksKept s (sendLine p d s) := by
  have hsend : ∀ u : State, BlocksKept u (u.onPort p fun q => q.onStore Store.sendOldest) :=
    fun u => .onPort_of_eq rfl (Store.sendOldest_pool _)
  unfold sendLine
  exact ((hsend _).after_ranged (State.ranged_countPort _ _ _)).then_ranged (ranged_countLostCells _ _ _)

theorem ranged_concealLine (p : PortId) (s : State) : (concealLine p s).ranged = s.ranged := rfl

theorem ranged_countDamaged (p : PortId) (s : State) : (countDamaged p s).ranged = s.ranged := rfl

theorem actOnDecision_keepsBlocks (p : PortId) (t : TakeDecision) (s : State) : BlocksKept s (actOnDecision p t s) := by
  unfold actOnDecision
  cases t with
  | send d => exact sendLine_keepsBlocks p d s
  | passDamaged d => exact (sendLine_keepsBlocks p d s).then_ranged (ranged_countDamaged p _)
  | concealDamaged =>
    refine .then_ranged ?_ ((ranged_concealLine p _).trans (ranged_countDamaged p _))
    exact .onPort_of_eq rfl rfl
  | late =>
    refine .then_ranged ?_ (ranged_concealLine p _)
    exact .after_ranged (.onPort_of_eq rfl rfl) (State.ranged_countPort _ _ _)
  | missing => exact .of_ranged (ranged_concealLine p s)

/-- R88: purge, prune and what the decision does. -/
theorem takeLine_keepsBlocks (p : PortId) (wanted : LineCount) (s : State) : BlocksKept s (takeLine p wanted s) :=
  (purgeAndPrune_keepsBlocks p wanted s).trans (actOnDecision_keepsBlocks p _ _)

theorem enginePort_keepsBlocks (nt : LineNotice) (p : PortId) (s : State) : BlocksKept s (enginePort nt p s) := by
  unfold enginePort
  dsimp only
  split
  · exact (releaseLine_keepsBlocks p s).trans (takeLine_keepsBlocks p _ _)
  · exact (releaseLine_keepsBlocks p s).then_ranged (ranged_setOutcome _ _ _)

/-- R78: a swap puts the STAGED bank in force, which the law bounds too. -/
theorem swapBanks_keepsBlocks (capacity : Nat) (s : State) : BlocksKept s (swapBanks capacity s) := by
  unfold swapBanks
  split
  · split
    · exact .of_table (fun h => ⟨h.1, h.1⟩) rfl rfl
    · exact .of_table (fun h => h) rfl rfl
  · exact .refl s

theorem frameStart_keepsBlocks (nt : FrameNotice) (s : State) : BlocksKept s (frameStart nt s) := by
  have hswap : ∀ capacity, BlocksKept s (swapBanks capacity { s with link := s.link.atFrameStart }) :=
    fun _ => (swapBanks_keepsBlocks _ _).after_ranged rfl
  have hrewind : ∀ u : State, BlocksKept u { u with anc := { u.anc with repeatPos := 0 } } :=
    fun u => .of_anc (fun h => h.rewind) (fun h => h)
  refine .then_ranged ?_ ((State.ranged_setFlagIf _ _ _).trans (State.ranged_setFlagIf _ _ _))
  exact ((hswap _).trans (hrewind _)).then_ranged rfl

theorem composePeriod_keepsBlocks (nt : LineNotice) (s : State) : BlocksKept s (composePeriod nt s) := by
  unfold composePeriod
  split
  · exact .trans (.of_anc (a := { s.anc with allowance := s.anc.allowanceFor s.ancCells })
      (fun h => h.allow s.ancCells) (fun h => h)) (.of_ranged rfl)
  · exact .of_ranged rfl

theorem ranged_countCause (c : LineCause) (g : Grid) (s : State) : (countCause c g s).ranged = s.ranged := by
  cases c with
  | flywheel => exact State.ranged_setFlagIf _ _ _
  | _ => rfl

theorem settleCalls_keepsBlocks (c : LineCause) (s : State) : BlocksKept s (settleCalls c s) := by
  unfold settleCalls
  split
  · exact .of_ranged rfl
  · exact .forPorts deliverCall_keepsBlocks s

theorem deliverPassed_keepsBlocks (p : PortId) (s : State) : BlocksKept s (deliverPassed p s) := by
  unfold deliverPassed
  split
  · exact .ite (deliverCall_keepsBlocks p s)
  · exact .refl s

theorem setUpCall_keepsBlocks (nt : LineNotice) (p : PortId) (s : State) : BlocksKept s (setUpCall nt p s) :=
  .of_ranged (State.ranged_onGrid _ _)

theorem setUpCalls_keepsBlocks (nt : LineNotice) (s : State) : BlocksKept s (setUpCalls nt s) :=
  .ite ((BlocksKept.forPorts (setUpCall_keepsBlocks nt) s).trans (.forPorts deliverPassed_keepsBlocks _))

theorem lineStart_keepsBlocks (c : LineCause) (s : State) : BlocksKept s (lineStart c s) := by
  have hgrid : ∀ u : State, BlocksKept u (countCause c u.grid (u.onGrid fun g => g.atLineStart u.timebase c)) :=
    fun u => .of_ranged ((ranged_countCause _ _ _).trans (State.ranged_onGrid _ _))
  refine .trans ?_ (setUpCalls_keepsBlocks _ _)
  refine .trans ?_ (composePeriod_keepsBlocks _ _)
  refine .trans ?_ (.forPorts (enginePort_keepsBlocks _) _)
  refine .trans ?_ (.forPorts (portNotice_keepsBlocks _) _)
  refine .trans ?_ (.ite (frameStart_keepsBlocks _ _))
  exact (settleCalls_keepsBlocks c s).trans (hgrid _)

theorem takeMarker_keepsBlocks (m : Byte) (period lines : Word) (s : State) :
    BlocksKept s (takeMarker m period lines s) := by
  unfold takeMarker
  split
  · unfold frameMarker
    split
    · split <;> exact lineStart_keepsBlocks _ s
    · exact .of_ranged rfl
  · exact .ite (lineStart_keepsBlocks .fitted s)

/-! ### The downlink's cells (R94 to R100, R148, R149) -/

theorem ranged_portCell (p : PortId) (s : State) : (portCell p s).1.ranged = s.ranged := by
  unfold portCell
  split
  · split <;> rfl
  · rfl
  · rfl

theorem ranged_returnCell (s : State) : (returnCell s).1.ranged = s.ranged := by
  unfold returnCell
  split
  · rfl
  · split <;> rfl

theorem ranged_putCell (kind : CellKind) (bytes : List Byte) (inFlight : Bool) (s : State) :
    (putCell kind bytes inFlight s).ranged = s.ranged := rfl

/-- R145: an ANC cell takes its bytes from the buffer. -/
theorem handSlotCell_keepsBlocks (index : Nat) (src : Source) (s : State) :
    BlocksKept s (handSlotCell index src s) := by
  cases src with
  | port p => exact .of_ranged ((ranged_putCell _ _ _ _).trans (ranged_portCell p s))
  | anc =>
    exact .trans (.of_anc (fun h => h.afterCell) (fun h => by rw [AncBuffer.afterCell_store]; exact h))
      (.of_ranged (ranged_putCell _ _ _ _))
  | ret => exact .of_ranged ((ranged_putCell _ _ _ _).trans (ranged_returnCell s))
  | fill => exact .of_ranged (ranged_putCell _ _ _ _)

theorem handNextCell_keepsBlocks (s : State) : BlocksKept s (handNextCell s) := by
  unfold handNextCell
  split
  · exact .of_ranged rfl
  · exact .of_ranged rfl
  · split
    · split
      · exact handSlotCell_keepsBlocks _ _ s
      · exact .of_ranged rfl
    · exact .of_ranged rfl

/-- R149: a mail whose last cell is carried leaves the outbox. -/
theorem removeRecord_keepsBlocks (src : ReturnSource) (s : State) : BlocksKept s (removeRecord src s) := by
  cases src with
  | forwardReply => exact .of_ranged rfl
  | mail => exact .of_mail (fun h => h.sent) rfl rfl rfl

theorem cellCarried_keepsBlocks (r : ReturnRecord) (s : State) : BlocksKept s (cellCarried r s) := by
  unfold cellCarried
  dsimp only
  split
  · exact (removeRecord_keepsBlocks r.source s).then_ranged rfl
  · exact .of_ranged rfl

/-! ### The requests (R155) -/

theorem applySettings_keepsBlocks (p : PortId) (new : Settings) (s : State) : BlocksKept s (applySettings p new s) := by
  have hset : BlocksKept s (s.onPort p fun q => { q with settings := new, servo := q.servo.clear }) :=
    .onPort (.of_servo (fun h => h.clear) rfl)
  unfold applySettings
  dsimp only
  split
  · exact hset.trans (.trans (.onPort_of_eq rfl rfl) (.of_ranged (ranged_setSending _ _ _)))
  · exact hset

theorem doClearFlags_keepsBlocks (ns : List Byte) (s : State) : BlocksKept s (doClearFlags ns s).state := by
  unfold doClearFlags
  split
  · exact .refl s
  · exact .of_ranged (ranged_settleBus _)

theorem doReadCounters_keepsBlocks (group action : Byte) (s : State) :
    BlocksKept s (doReadCounters group action s).state := by
  unfold doReadCounters
  split
  · split
    · exact .refl s
    · dsimp only [done]
      split <;> exact .of_ranged rfl
  · exact .refl s

theorem doRestart_keepsBlocks (s : State) : BlocksKept s (doRestart s).state := by
  unfold doRestart
  split <;> exact .of_ranged rfl

theorem doSetTiming_keepsBlocks (imageLines : Word) (delay : Byte) (period lines : Word) (s : State) :
    BlocksKept s (doSetTiming imageLines delay period lines s).state := by
  unfold doSetTiming
  split
  · exact .refl s
  · split <;> exact .of_ranged rfl

theorem doSetPort_keepsBlocks (port : Byte) (f : PortFields) (s : State) : BlocksKept s (doSetPort port f s).state := by
  unfold doSetPort
  split
  · split
    · exact .refl s
    · exact applySettings_keepsBlocks _ _ s
  · exact .refl s
  · exact .refl s

theorem doReadPort_keepsBlocks (port : Byte) (s : State) : BlocksKept s (doReadPort port s).state := by
  unfold doReadPort
  split <;> exact .refl s

theorem doSetTrim_keepsBlocks (port : Byte) (trim : Word) (s : State) : BlocksKept s (doSetTrim port trim s).state := by
  unfold doSetTrim
  split
  · split
    · next hr =>
      dsimp only [done]
      exact .onPort (.of_servo (fun h => h.setTrim hr.1 hr.2) rfl)
    · exact .refl s
  · exact .refl s

theorem doStageSlots_keepsBlocks (first newLen : Byte) (entries : List SlotFields) (s : State) :
    BlocksKept s (doStageSlots first newLen entries s).state := by
  unfold doStageSlots
  split
  · exact .refl s
  · split
    · next hin =>
      split
      · next hes =>
        have hes' := forall_mem_of_mapM_eq_some (fun _ _ => SlotFields.entry?_inRange) hes
        exact .of_table (fun h => ⟨h.1.stagedAfter hin hes', h.2⟩) rfl rfl
      · exact .refl s
    · exact .refl s

theorem doReadSlots_keepsBlocks (selector : Byte) (s : State) : BlocksKept s (doReadSlots selector s).state := by
  unfold doReadSlots
  split
  · exact .refl s
  · split <;> exact .refl s

theorem doCommitSlots_keepsBlocks (s : State) : BlocksKept s (doCommitSlots s).state := by
  unfold doCommitSlots
  split
  · exact .refl s
  · split
    · exact .of_table (fun h => h) rfl rfl
    · exact .refl s

theorem doSetLink_keepsBlocks (ceiling : Byte) (threshold : Word) (s : State) :
    BlocksKept s (doSetLink ceiling threshold s).state := by
  unfold doSetLink
  split <;> exact .of_ranged rfl

theorem doForward_keepsBlocks (f : ForwardFields) (s : State) : BlocksKept s (doForward f s).state := by
  unfold doForward
  split
  · exact .refl s
  · split
    · exact .refl s
    · exact .of_ranged (ranged_settleBus _)

theorem doFetchReplies_keepsBlocks (n : Byte) (s : State) : BlocksKept s (doFetchReplies n s).state := by
  unfold doFetchReplies
  split
  · split <;> exact .of_ranged rfl
  · exact .refl s

theorem doSetGate_keepsBlocks (mode : Byte) (s : State) : BlocksKept s (doSetGate mode s).state := by
  unfold doSetGate
  split <;> exact .of_ranged rfl

theorem doSetBus_keepsBlocks (timeout : Word) (replyMark : Byte) (s : State) :
    BlocksKept s (doSetBus timeout replyMark s).state := by
  unfold doSetBus
  split <;> exact .of_ranged rfl

theorem doAncMode_keepsBlocks (mode : Byte) (window : Word) (s : State) :
    BlocksKept s (doAncMode mode window s).state := by
  unfold doAncMode
  split
  · next hr => exact .of_anc (fun _ => AncBuffer.lawful_setMode _ _ hr.2) (fun h => h)
  · exact .refl s

theorem doAncLoad_keepsBlocks (offset : Word) (bytes : List Byte) (s : State) :
    BlocksKept s (doAncLoad offset bytes s).state := by
  unfold doAncLoad
  split
  · next hm =>
    split
    · exact .refl s
    · next hfit => exact .of_anc (fun h => h.queue hm _ (by omega)) (fun h => h.writeRing (by decide) _ bytes)
  · split
    · exact .refl s
    · next hfit => exact .of_anc (fun h => h.store _) (fun h => h.writeList (by omega))

theorem doMailSend_keepsBlocks {body : List Byte} (hb : body.length ≤ 64) (s : State) :
    BlocksKept s (doMailSend body s).state := by
  unfold doMailSend
  split
  · exact .refl s
  · next hroom => exact .of_mail (fun h => h.send (by omega) hb) rfl rfl rfl

theorem doMailFetch_keepsBlocks (s : State) : BlocksKept s (doMailFetch s).state := by
  unfold doMailFetch
  split
  · exact .refl s
  · next body rest hm =>
    have hfetch : BlocksKept s { s with mail := { s.mail with inbox := rest } } :=
      .of_mail (fun h => h.fetch hm) rfl rfl rfl
    exact hfetch.then_ranged (ranged_evalHold _)

/-- Every request keeps the laws, a MAIL-SEND when its body fits. -/
theorem perform_keepsBlocks {q : Request} (hq : MailFits q) (s : State) : BlocksKept s (perform q s).state := by
  cases q with
  | clearFlags ns => exact doClearFlags_keepsBlocks ns s
  | readCounters g a => exact doReadCounters_keepsBlocks g a s
  | restart => exact doRestart_keepsBlocks s
  | setTiming f d p g => exact doSetTiming_keepsBlocks f d p g s
  | setPort p f => exact doSetPort_keepsBlocks p f s
  | readPort p => exact doReadPort_keepsBlocks p s
  | setTrim p t => exact doSetTrim_keepsBlocks p t s
  | stageSlots f l es => exact doStageSlots_keepsBlocks f l es s
  | readSlots b => exact doReadSlots_keepsBlocks b s
  | commitSlots => exact doCommitSlots_keepsBlocks s
  | setLink c t => exact doSetLink_keepsBlocks c t s
  | forward f => exact doForward_keepsBlocks f s
  | fetchReplies n => exact doFetchReplies_keepsBlocks n s
  | setGate m => exact doSetGate_keepsBlocks m s
  | setBus t m => exact doSetBus_keepsBlocks t m s
  | ancMode m w => exact doAncMode_keepsBlocks m w s
  | ancLoad o bs => exact doAncLoad_keepsBlocks o bs s
  | mailSend b => exact doMailSend_keepsBlocks hq s
  | mailFetch => exact doMailFetch_keepsBlocks s
  | setAttnMask m => exact .of_ranged rfl
  | identify => exact .refl s
  | readStatus => exact .refl s
  | readGrid => exact .refl s
  | readWeave => exact .refl s
  | readLink => exact .refl s

/-! ### The Management Port and the resets (R151 to R159) -/

theorem dispatch_keepsBlocks (r : ReqRecord) (s : State) : BlocksKept s (dispatch r s) := by
  rcases dispatch_cases r s with ⟨o, -, h⟩ | ⟨q, hq, h⟩ <;> rw [h]
  · exact .of_ranged rfl
  · exact (perform_keepsBlocks (parseRecord_mailFits hq) s).then_ranged rfl

theorem recordComplete_keepsBlocks (r : ReqRecord) (s : State) : BlocksKept s (recordComplete r s) := by
  rcases recordComplete_cases r s with ⟨-, h⟩ | ⟨-, -, h⟩ | ⟨-, -, h⟩ <;> rw [h]
  · exact dispatch_keepsBlocks r s
  · exact .of_ranged rfl
  · exact .of_ranged rfl

/-- Section 5.8, R39: a reset gives every block its reset values but leaves the bytes of the cell pools. -/
theorem resetBlocks_keepsBlocks (resetLow : Bool) (s : State) : BlocksKept s (resetBlocks resetLow s) where
  port p := by cases p <;> exact ⟨fun _ => Servo.reset_inRange, fun h => h⟩
  table _ := WeaveTable.reset_lawful
  anc _ := AncBuffer.reset_lawful
  ancStore _ := Memory.Sound.nil 4096
  mail _ := Mailboxes.reset_lawful

theorem powerOn_keepsBlocks (resetn : ResetPin) (straps : BitVec 2) (s : State) :
    BlocksKept s (powerOn resetn straps s) := by
  cases resetn <;> exact (resetBlocks_keepsBlocks _ s).then_ranged rfl

theorem replyEnds_keepsBlocks (r : ReplyOut) (s : State) : BlocksKept s (replyEnds r s) := by
  have hheld : ∀ u, BlocksKept u (dispatchHeld u) := by
    intro u
    unfold dispatchHeld
    split
    · exact (dispatch_keepsBlocks _ _).after_ranged rfl
    · exact .refl u
  unfold replyEnds
  dsimp only
  refine .trans ?_ (hheld _)
  split
  · exact ((resetBlocks_keepsBlocks _ _).after_ranged rfl).then_ranged rfl
  · exact .of_ranged rfl

theorem takeByte_keepsBlocks (b : Byte) (s : State) : BlocksKept s (takeByte b s) := by
  unfold takeByte
  split
  · split <;> exact .of_ranged rfl
  · unfold collectByte
    split
    · exact .of_ranged rfl
    · exact .of_ranged rfl
    · exact (recordComplete_keepsBlocks _ _).after_ranged rfl

/-! ### Every command and every step -/

theorem whenRunning_keepsBlocks {f : State → State} {s t : State} (h : whenRunning s f = .next t)
    (hf : ∀ s, BlocksKept s (f s)) : BlocksKept s t := by
  rcases whenRunning_cases h with ⟨-, rfl⟩ | ⟨-, rfl⟩
  · exact .refl _
  · exact hf s

/-! ### The commands: the grid's and the lanes' events -/

theorem predictionLineStart_keepsBlocks {s t : State} (h : execPredictionLineStart s = .next t) : BlocksKept s t := by
  unfold execPredictionLineStart at h
  exact whenRunning_keepsBlocks h fun u => .ite (lineStart_keepsBlocks _ u)

theorem fitWindowExpiry_keepsBlocks {s t : State} (h : execFitWindowExpiry s = .next t) : BlocksKept s t := by
  unfold execFitWindowExpiry at h
  exact whenRunning_keepsBlocks h fun u => .ite (lineStart_keepsBlocks _ u)

theorem callDue_keepsBlocks (p : PortId) {s t : State} (h : execCallDue p s = .next t) : BlocksKept s t := by
  unfold execCallDue at h
  exact whenRunning_keepsBlocks h fun u => .ite (deliverCall_keepsBlocks p u)

theorem marker_keepsBlocks (m : Byte) (period lines : Word) {s t : State} (h : execMarker m period lines s = .next t) :
    BlocksKept s t := by
  unfold execMarker at h
  exact whenRunning_keepsBlocks h fun u => (takeMarker_keepsBlocks m period lines _).after_ranged (ranged_goodBlock u)

theorem laneSignalPresent_keepsBlocks (p : PortId) {s t : State} (h : execLaneSignalPresent p s = .next t) :
    BlocksKept s t := by
  unfold execLaneSignalPresent at h
  have hpin : BlocksKept s (s.onPort p fun q => q.onLane fun l => { l with signal := true }) := .onPort_of_eq rfl rfl
  exact hpin.trans (whenRunning_keepsBlocks h fun u => .ite (startAcquiring_keepsBlocks p u))

theorem laneSignalLost_keepsBlocks (p : PortId) {s t : State} (h : execLaneSignalLost p s = .next t) :
    BlocksKept s t := by
  unfold execLaneSignalLost at h
  have hpin : BlocksKept s (s.onPort p fun q => q.onLane fun l => { l with signal := false }) := .onPort_of_eq rfl rfl
  refine hpin.trans (whenRunning_keepsBlocks h fun u => ?_)
  split
  · exact .refl u
  · exact .onPort_of_eq rfl rfl
  · exact laneLoss_keepsBlocks p u

theorem laneSymbol_keepsBlocks (p : PortId) (sym : LaneSymbol) {s t : State} (h : execLaneSymbol p sym s = .next t) :
    BlocksKept s t := by
  unfold execLaneSymbol at h
  refine whenRunning_keepsBlocks h fun u => ?_
  split
  · exact .refl u
  · exact .onPort_of_eq rfl rfl
  · exact upSymbol_keepsBlocks p sym u

/-! ### The commands: the link's events -/

theorem cellHandover_keepsBlocks {s t : State} (h : execCellHandover s = .next t) : BlocksKept s t := by
  unfold execCellHandover at h
  exact whenRunning_keepsBlocks h fun u => .ite (handNextCell_keepsBlocks u)

theorem returnCellCarried_keepsBlocks {s t : State} (h : execReturnCellCarried s = .next t) : BlocksKept s t := by
  unfold execReturnCellCarried at h
  refine whenRunning_keepsBlocks h fun u => .ite ?_
  dsimp only
  split
  · exact (cellCarried_keepsBlocks _ _).after_ranged rfl
  · exact .of_ranged rfl

theorem failedBlock_keepsBlocks {s t : State} (h : execFailedBlock s = .next t) : BlocksKept s t := by
  unfold execFailedBlock at h
  exact whenRunning_keepsBlocks h fun u => .of_ranged (ranged_takeFailedBlock u)

theorem offer_keepsBlocks (cls : Byte) {s t : State} (h : execOffer cls s = .next t) : BlocksKept s t := by
  unfold execOffer at h
  refine whenRunning_keepsBlocks h fun u => .of_ranged ?_
  split
  · exact (ranged_takeOffer _ _).trans (ranged_goodBlock u)
  · exact ranged_goodBlock u

theorem start_keepsBlocks (cls : Byte) {s t : State} (h : execStart cls s = .next t) : BlocksKept s t := by
  unfold execStart at h
  refine whenRunning_keepsBlocks h fun u => .of_ranged ?_
  split
  · exact (ranged_takeStart _ _).trans (ranged_goodBlock u)
  · exact ranged_goodBlock u

theorem health_keepsBlocks (errors : Word) {s t : State} (h : execHealth errors s = .next t) : BlocksKept s t := by
  unfold execHealth at h
  exact whenRunning_keepsBlocks h fun u => .of_ranged ((ranged_takeHealth _ _).trans (ranged_goodBlock u))

theorem uplinkIdle_keepsBlocks {s t : State} (h : execUplinkIdle s = .next t) : BlocksKept s t := by
  unfold execUplinkIdle at h
  exact whenRunning_keepsBlocks h fun u => .of_ranged (ranged_goodBlock u)

theorem segment_keepsBlocks (marks len : Byte) (payload : List Byte) {s t : State}
    (h : execSegment marks len payload s = .next t) : BlocksKept s t := by
  unfold execSegment at h
  exact whenRunning_keepsBlocks h fun u =>
    (takeSegment_keepsBlocks marks len payload _).after_ranged (ranged_goodBlock u)

theorem silenceExpiry_keepsBlocks {s t : State} (h : execSilenceExpiry s = .next t) : BlocksKept s t := by
  unfold execSilenceExpiry at h
  exact whenRunning_keepsBlocks h fun u => .ite (.of_ranged (ranged_linkLoss u))

theorem trainingExpiry_keepsBlocks {s t : State} (h : execTrainingExpiry s = .next t) : BlocksKept s t := by
  unfold execTrainingExpiry at h
  exact whenRunning_keepsBlocks h fun u => .ite (.of_ranged (State.ranged_onLink u _))

/-! ### The commands: the bus's events -/

theorem wordSent_keepsBlocks {s t : State} (h : execWordSent s = .next t) : BlocksKept s t := by
  unfold execWordSent at h
  exact whenRunning_keepsBlocks h fun u => .of_ranged (ranged_withBusTxn ranged_wordEnded u)

theorem boardAnswer_keepsBlocks (a : BoardAnswer) {s t : State} (h : execBoardAnswer a s = .next t) :
    BlocksKept s t := by
  unfold execBoardAnswer at h
  exact whenRunning_keepsBlocks h fun u => .of_ranged (ranged_withBusTxn (fun x v => ranged_boardAnswered x a v) u)

theorem readWord_keepsBlocks (w : Word) {s t : State} (h : execReadWord w s = .next t) : BlocksKept s t := by
  unfold execReadWord at h
  exact whenRunning_keepsBlocks h fun u => .of_ranged (ranged_withBusTxn (fun x v => ranged_wordRead x w v) u)

theorem answerTimeout_keepsBlocks {s t : State} (h : execAnswerTimeout s = .next t) : BlocksKept s t := by
  unfold execAnswerTimeout at h
  refine whenRunning_keepsBlocks h fun u => .of_ranged (ranged_withBusTxn (fun x v => ?_) u)
  split
  · exact ranged_waitExpired x v
  · rfl

/-! ### The commands: the Management Port's events -/

theorem mgmtByte_keepsBlocks (b : Byte) {s t : State} (h : execMgmtByte b s = .next t) : BlocksKept s t := by
  unfold execMgmtByte at h
  exact whenRunning_keepsBlocks h fun u => takeByte_keepsBlocks b u

theorem gapExpiry_keepsBlocks {s t : State} (h : execGapExpiry s = .next t) : BlocksKept s t := by
  unfold execGapExpiry at h
  exact whenRunning_keepsBlocks h fun _ => .ite (.of_ranged rfl)

theorem replyEnd_keepsBlocks {s t : State} (h : execReplyEnd s = .next t) : BlocksKept s t := by
  unfold execReplyEnd at h
  refine whenRunning_keepsBlocks h fun u => ?_
  split
  · exact replyEnds_keepsBlocks _ u
  · exact .refl u

/-- Every command keeps the laws. -/
theorem exec_keepsBlocks (i : Instr) {s t : State} (h : exec i s = .next t) : BlocksKept s t := by
  cases hq : i.request? with
  | some q =>
    rw [request_arrives hq] at h
    exact whenRunning_keepsBlocks h (recordComplete_keepsBlocks _)
  | none =>
    cases i with
    | powerOn resetn straps =>
      cases h
      exact powerOn_keepsBlocks resetn straps s
    | predictionLineStart => exact predictionLineStart_keepsBlocks h
    | fitWindowExpiry => exact fitWindowExpiry_keepsBlocks h
    | callDue p => exact callDue_keepsBlocks p h
    | marker m period lines => exact marker_keepsBlocks m period lines h
    | laneSignalPresent p => exact laneSignalPresent_keepsBlocks p h
    | laneSignalLost p => exact laneSignalLost_keepsBlocks p h
    | laneSymbol p sym => exact laneSymbol_keepsBlocks p sym h
    | cellHandover => exact cellHandover_keepsBlocks h
    | returnCellCarried => exact returnCellCarried_keepsBlocks h
    | failedBlock => exact failedBlock_keepsBlocks h
    | offer cls => exact offer_keepsBlocks cls h
    | start cls => exact start_keepsBlocks cls h
    | health errors => exact health_keepsBlocks errors h
    | uplinkIdle => exact uplinkIdle_keepsBlocks h
    | segment marks len payload => exact segment_keepsBlocks marks len payload h
    | silenceExpiry => exact silenceExpiry_keepsBlocks h
    | trainingExpiry => exact trainingExpiry_keepsBlocks h
    | wordSent => exact wordSent_keepsBlocks h
    | boardAnswer a => exact boardAnswer_keepsBlocks a h
    | readWord w => exact readWord_keepsBlocks w h
    | answerTimeout => exact answerTimeout_keepsBlocks h
    | mgmtByte b => exact mgmtByte_keepsBlocks b h
    | gapExpiry => exact gapExpiry_keepsBlocks h
    | replyEnd => exact replyEnd_keepsBlocks h
    | unknownKind kind body => exact whenRunning_keepsBlocks h (recordComplete_keepsBlocks _)
    | _ => cases hq

/-- Every step keeps the laws: it is a command, the tick of the timebase, or nothing. -/
theorem step_keepsBlocks {s t : State} (h : step s = .next t) : BlocksKept s t := by
  unfold step at h
  split at h
  · unfold idle at h
    split at h
    · cases h
      exact .refl s
    · split at h
      · exact exec_keepsBlocks _ h
      · cases h
        exact .of_ranged rfl
  · exact (exec_keepsBlocks _ h).after_ranged rfl

/-- Settles O24: each of the five laws is kept on its own by every step, as `step_keepsBlocks` says block by block. -/
theorem stepKeepsBlocksSound : Obligations.StepKeepsBlocksSound := by
  unfold Obligations.StepKeepsBlocksSound
  intro s t h
  have hkept := step_keepsBlocks h
  exact ⟨fun hs p => (hkept.port p).servo (hs p), hkept.table, hkept.anc, hkept.mail,
    fun hm => ⟨fun p => (hkept.port p).pool (hm.pools p), hkept.ancStore hm.anc⟩⟩

end Sys2Proof.Machine
end

section
/-! PROOF of O33: the cells of a carried period in their order, and what the downlink carries. The layers: a run of bytes
read from a store, byte by byte; which entry a slot cell belongs to; what the handover does at each place in the
period. -/

namespace Sys2Proof.Machine

/-! ### Runs of bytes read from a store (R49, R142) -/

theorem Memory.readList_eq_map (m : Memory) (a k : Nat) :
    m.readList a k = (List.range k).map fun j => m.read (a + j) := by
  induction k generalizing a with
  | zero => rfl
  | succ k ih =>
    rw [Memory.readList, ih, List.range_succ_eq_map, List.map_cons, List.map_map]
    simp [Function.comp_def, Nat.add_assoc, Nat.add_comm 1]

/-- R49: cell `k` of a line is the 32 bytes of the pool cell its descriptor lists there. -/
theorem Store.lineCell_of_cell (x : Store) {d : Descriptor} {k : Nat} {c : Fin 1024} (hc : d.cells[k]? = some c) :
    x.lineCell d k = (List.range 32).map fun j => x.pool.read (32 * c.val + j) := by
  simp only [Store.lineCell, hc, Memory.readList_eq_map, Nat.mul_comm c.val]

/-! ### The entry a slot cell belongs to (R94) -/

/-- The cells from the total of the entries before entry `i` on, up to the total with it, are entry `i`'s. -/
theorem slotOfCell_of_mem {cells : List Nat} {i k : Nat} (index : Nat) (hlo : (cells.take i).sum ≤ k)
    (hhi : k < (cells.take (i + 1)).sum) : slotOfCell cells index k = some (index + i) := by
  induction cells generalizing i index k with
  | nil => simp at hhi
  | cons c rest ih =>
    rw [List.take_succ_cons, List.sum_cons] at hhi
    cases i with
    | zero =>
      have hk : k < c := by simpa using hhi
      rw [slotOfCell, if_pos hk, Nat.add_zero]
    | succ i =>
      rw [List.take_succ_cons, List.sum_cons] at hlo
      rw [slotOfCell, if_neg (by omega), ih (i := i) (index + 1) (by omega) (by omega)]
      congr 1
      omega

/-- No entry has a cell at or beyond the total. -/
theorem slotOfCell_of_total_le {cells : List Nat} {k : Nat} (index : Nat) (h : cells.sum ≤ k) :
    slotOfCell cells index k = none := by
  induction cells generalizing index k with
  | nil => rfl
  | cons c rest ih =>
    rw [List.sum_cons] at h
    rw [slotOfCell, if_neg (by omega), ih (index + 1) (by omega)]

/-! ### The next cell of the period (R94, R100, R116) -/

/-- The link takes a cell: the period is carried, frames run, and no RETURN cell is still being sent (R100, R103, R115,
R149). -/
def State.takesCell (s : State) : Prop :=
  s.engine.carried = true ∧ s.link.framesRunning = true ∧ s.link.returnInFlight = false

theorem exec_cellHandover_of_takesCell {s : State} (hr : s.resetLow = false) (ht : s.takesCell) :
    exec .cellHandover s = .next (handNextCell s) := by
  obtain ⟨hcarried, hrunning, hflight⟩ := ht
  show execCellHandover s = _
  simp [execCellHandover, whenRunning, hr, hcarried, hrunning, hflight]

theorem exec_cellHandover_of_not_takesCell {s : State} (ht : ¬s.takesCell) : exec .cellHandover s = .next s := by
  have hguard : (s.engine.carried && s.link.framesRunning && !s.link.returnInFlight) = false := by
    simpa [State.takesCell] using ht
  show execCellHandover s = _
  simp [execCellHandover, whenRunning, hguard]

theorem handNextCell_header {s : State} (h : s.engine.handed = 0) :
    handNextCell s = putCell .header s.engine.header false s := by
  simp only [handNextCell, h]

theorem handNextCell_maintenance {s : State} (h : s.engine.handed = 1) :
    handNextCell s = putCell .maintenance s.engine.maintenance false s := by
  simp only [handNextCell, h]

theorem handNextCell_slot {s : State} {k i : Nat} {e : SlotEntry} (h : s.engine.handed = k + 2)
    (he : s.table.active[i]? = some e) (hlo : (s.slotCells.take i).sum ≤ k)
    (hhi : k < (s.slotCells.take (i + 1)).sum) : handNextCell s = handSlotCell i e.source s := by
  have hslot : slotOfCell s.slotCells 0 k = some i := by rw [slotOfCell_of_mem 0 hlo hhi, Nat.zero_add]
  simp only [handNextCell, h, hslot, he]

theorem handNextCell_afterLast {s : State} {k : Nat} (h : s.engine.handed = k + 2) (hk : s.slotCells.sum ≤ k) :
    handNextCell s = sendFrameIdle s := by
  simp only [handNextCell, h, slotOfCell_of_total_le 0 hk]

/-! ### The cells of a port's entry (R98, R102) -/

/-- A port's entry is filled when no line is being laid, or all of its cells are laid. -/
theorem portCell_fill {p : PortId} {s : State}
    (h : ∀ m d, s.engine.sending.get p = some m → (s.port p).store.sending? = some d → d.count ≤ m.lay) :
    portCell p s = (s, fillCell) := by
  unfold portCell
  split
  next m d hm hd => rw [if_neg (Nat.not_lt.2 (h m d hm hd))]
  next => rfl
  next => rfl

/-- A SENDING line with cells left gives its next one. -/
theorem portCell_line {p : PortId} {s : State} {m : SendingMark} {d : Descriptor} {c : Fin 1024}
    (hm : s.engine.sending.get p = some m) (hd : (s.port p).store.sending? = some d) (hlay : m.lay < d.count)
    (hc : d.cells[m.lay]? = some c) :
    portCell p s = (setSending p (some { m with lay := m.lay + 1 }) s,
      (List.range 32).map fun j => (s.port p).store.pool.read (32 * c.val + j)) := by
  simp only [portCell, hm, hd, if_pos hlay, Store.lineCell_of_cell _ hc]

/-! ### What the downlink carries (R109, R115, R116) -/

/-- R109: the training answer, its class and the ceiling, filled up to 30 bytes, and the check. -/
theorem trainingIdle_eq (k : Link) : trainingIdle k = withCheck
    ((match k.answer with
      | .none => [0x00, 0xFF]
      | .accept c => [0x01, byteOf c]
      | .reject => [0x02, 0xFF]) ++ [byteOf k.ceiling] ++ List.replicate 27 0) := by
  unfold trainingIdle
  cases k.answer <;> rfl

theorem State.downlink_training {s : State} (h : s.link.framesRunning = false) :
    s.downlink = .trainingIdle (trainingIdle s.link) := by
  simp [State.downlink, h]

theorem State.downlink_cell {s : State} {c : DownCell} (h : s.link.framesRunning = true) (hc : s.link.cell = some c) :
    s.downlink = .cell c.bytes := by
  simp [State.downlink, h, hc]

theorem State.downlink_frameIdle {s : State} (h : s.link.framesRunning = true) (hc : s.link.cell = none) :
    s.downlink = .frameIdle := by
  simp [State.downlink, h, hc]

/-- Settles O33: one conjunct for each place in the period, and one for each thing the downlink carries. -/
theorem cellsAreHandedOver : Obligations.CellsAreHandedOver := by
  unfold Obligations.CellsAreHandedOver
  intro s hr takes given
  have hexec : takes → exec .cellHandover s = .next (handNextCell s) := exec_cellHandover_of_takesCell hr
  refine ⟨exec_cellHandover_of_not_takesCell, ?header, ?maintenance, ?afterLast, ?slot, ?training,
    fun c => State.downlink_cell, State.downlink_frameIdle⟩
  case header =>
    intro ht h
    rw [hexec ht, handNextCell_header h]
    rfl
  case maintenance =>
    intro ht h
    rw [hexec ht, handNextCell_maintenance h]
    rfl
  case afterLast =>
    intro k ht h hk
    rw [hexec ht, handNextCell_afterLast h hk]
    rfl
  case slot =>
    intro k i e ht h he hlo hhi
    rw [hexec ht, handNextCell_slot h he hlo hhi]
    refine ⟨fun hsrc => ?_, fun p hsrc hfill => ?_, fun p m d c hsrc hm hd hlay hc => ?_⟩ <;> rw [hsrc]
    · rfl
    · simp only [handSlotCell, portCell_fill hfill]
      rfl
    · simp only [handSlotCell, portCell_line hm hd hlay hc]
      rfl
  case training =>
    intro h
    exact (State.downlink_training h).trans (congrArg Downlink.trainingIdle (trainingIdle_eq s.link))

end Sys2Proof.Machine
end

section
/-! PROOF of O34: the bytes of an ANC and of a RETURN cell, and how the figures behind them move on. The layers: the
ancillary buffer's ring of bytes; the records of the two return sources and the choice between them; the RETURN cell
in each case. -/

namespace Sys2Proof.Machine

/-! ### The ancillary cell (R145, R146) -/

theorem Memory.readRing_eq_map (size : Nat) (m : Memory) (a k : Nat) :
    m.readRing size a k = (List.range k).map fun j => m.read ((a + j) % size) := by
  induction k generalizing a with
  | zero => rfl
  | succ k ih =>
    rw [Memory.readRing, ih, List.range_succ_eq_map, List.map_cons, List.map_map]
    simp [Function.comp_def, Nat.add_assoc, Nat.add_comm 1]

theorem AncBuffer.nextBytes_stream {a : AncBuffer} (h : a.mode = .stream) :
    a.nextBytes = (List.range (min a.allowance 32)).map fun j => a.store.read ((a.readPoint + j) % 4096) := by
  simp only [AncBuffer.nextBytes, h, Memory.readRing_eq_map]

theorem AncBuffer.nextBytes_repeating {a : AncBuffer} (h : a.mode = .repeating) :
    a.nextBytes = (List.range (min a.allowance 32)).map fun j => a.store.read ((a.repeatPos + j) % a.window) := by
  simp only [AncBuffer.nextBytes, h, Memory.readRing_eq_map]

theorem AncBuffer.afterCell_stream {a : AncBuffer} (h : a.mode = .stream) :
    a.afterCell = { a with
      readPoint := (a.readPoint + min a.allowance 32) % 4096
      fill := a.fill - min a.allowance 32
      allowance := a.allowance - min a.allowance 32 } := by
  simp only [AncBuffer.afterCell, h]

theorem AncBuffer.afterCell_repeating {a : AncBuffer} (h : a.mode = .repeating) :
    a.afterCell = { a with
      repeatPos := (a.repeatPos + min a.allowance 32) % a.window
      allowance := a.allowance - min a.allowance 32 } := by
  simp only [AncBuffer.afterCell, h]

/-! ### The records of the return sources (R147) -/

theorem wordBytes_length (ws : List Word) : (wordBytes ws).length = 2 * ws.length := by
  induction ws with
  | nil => rfl
  | cons w ws ih =>
    have htail : (ws.flatMap be16).length = 2 * ws.length := ih
    simp only [wordBytes, List.flatMap_cons, List.length_append, htail, List.length_cons, be16, List.length_nil]
    omega

/-- Assumption log 32: seven bytes, and two for each read word held. -/
theorem BusReply.returnBody_length (r : BusReply) : r.returnBody.length = 7 + 2 * r.reads.length := by
  simp only [BusReply.returnBody, List.length_append, wordBytes_length, be16, List.length_cons, List.length_nil]

theorem returnRecord_reply (r : BusReply) : returnRecord 1 r.returnBody =
    withCheck (1 :: (be16n (7 + 2 * r.reads.length)
      ++ ([r.tag, r.board, r.kind, r.result.code, byteOf r.done] ++ be16n r.next.toNat ++ r.reads.flatMap be16))) := by
  rw [returnRecord, BusReply.returnBody_length, BusReply.returnBody, wordBytes, be16n, be16n, BitVec.ofNat_toNat,
    BitVec.setWidth_eq]

theorem State.headRecord?_mail {s : State} {b : List Byte} {bs : List (List Byte)} (h : s.mail.outbox = b :: bs) :
    s.headRecord? .mail = some (returnRecord 2 b) := by
  simp [State.headRecord?, h]

theorem State.headRecord?_forwardReply {s : State} {r : BusReply} {rs : List BusReply}
    (h : s.bus.remoteReplies = r :: rs) : s.headRecord? .forwardReply = some (returnRecord 1 r.returnBody) := by
  simp [State.headRecord?, h]

theorem State.headRecord?_mail_nil {s : State} (h : s.mail.outbox = []) : s.headRecord? .mail = none := by
  simp [State.headRecord?, h]

theorem State.headRecord?_forwardReply_nil {s : State} (h : s.bus.remoteReplies = []) :
    s.headRecord? .forwardReply = none := by
  simp [State.headRecord?, h]

/-! ### The source of the next record (R148) -/

theorem State.chooseSource_none {s : State} (hr : s.bus.remoteReplies = []) (hm : s.mail.outbox = []) :
    s.chooseSource = none := by
  simp [State.chooseSource, s.headRecord?_forwardReply_nil hr, s.headRecord?_mail_nil hm]

/-- A mail is next when it waits alone, or when the last record was a reply. -/
theorem State.chooseSource_mail {s : State} {b : List Byte} {bs : List (List Byte)} (hm : s.mail.outbox = b :: bs)
    (h : s.bus.remoteReplies = [] ∨ s.mail.lastSource = .forwardReply) : s.chooseSource = some .mail := by
  have hmail := s.headRecord?_mail hm
  cases hr : s.bus.remoteReplies with
  | nil => simp [State.chooseSource, hmail, s.headRecord?_forwardReply_nil hr]
  | cons r rs =>
    have hlast : s.mail.lastSource = .forwardReply := by simpa [hr] using h
    simp [State.chooseSource, hmail, s.headRecord?_forwardReply hr, hlast]

/-- A reply is next when it waits alone, or when the last record was a mail. -/
theorem State.chooseSource_forwardReply {s : State} {r : BusReply} {rs : List BusReply}
    (hr : s.bus.remoteReplies = r :: rs) (h : s.mail.outbox = [] ∨ s.mail.lastSource = .mail) :
    s.chooseSource = some .forwardReply := by
  have hreply := s.headRecord?_forwardReply hr
  cases hm : s.mail.outbox with
  | nil => simp [State.chooseSource, hreply, s.headRecord?_mail_nil hm]
  | cons b bs =>
    have hlast : s.mail.lastSource = .mail := by simpa [hm] using h
    simp [State.chooseSource, hreply, s.headRecord?_mail hm, hlast]

/-! ### The RETURN cell (R148) -/

theorem returnCell_fill {s : State} (hn : s.mail.record = none) (hc : s.chooseSource = none) :
    returnCell s = (s, fillCell, false) := by
  simp only [returnCell, hn, hc]

theorem returnCell_begins {s : State} {src : ReturnSource} {record : List Byte} (hn : s.mail.record = none)
    (hc : s.chooseSource = some src) (hh : s.headRecord? src = some record) :
    returnCell s = ({ s with mail := { s.mail with record := some ⟨src, 0⟩, lastSource := src } },
      recordCell record 0, true) := by
  simp only [returnCell, hn, hc, hh, Option.getD_some]

theorem returnCell_goesOn {s : State} {src : ReturnSource} {j : Nat} {record : List Byte}
    (hr : s.mail.record = some ⟨src, j⟩) (hh : s.headRecord? src = some record) :
    returnCell s = (s, recordCell record j, true) := by
  simp only [returnCell, hr, hh, Option.getD_some]

/-! ### The handover of an ANC and of a RETURN entry's cell (R99) -/

theorem handSlotCell_anc (i : Nat) (s : State) :
    handSlotCell i .anc s = putCell (.slot i) (padTo 32 s.anc.nextBytes) false { s with anc := s.anc.afterCell } := rfl

theorem handSlotCell_ret {i : Nat} {s t : State} {bytes : List Byte} {inFlight : Bool}
    (h : returnCell s = (t, bytes, inFlight)) : handSlotCell i .ret s = putCell (.slot i) bytes inFlight t := by
  simp only [handSlotCell, h]

/-- Settles O34: the entry's cell is handed over by `handNextCell_slot`; each conjunct is then one mode of the ancillary
buffer, or one case of the RETURN cell. -/
theorem ancAndReturnCells : Obligations.AncAndReturnCells := by
  unfold Obligations.AncAndReturnCells
  intro s k i e hr hcarried hrunning hflight hk he hlo hhi given a n begins mailRecord replyRecord cell
  have hexec : exec .cellHandover s = .next (handSlotCell i e.source s) := by
    rw [exec_cellHandover_of_takesCell hr ⟨hcarried, hrunning, hflight⟩, handNextCell_slot hk he hlo hhi]
  rw [hexec]
  refine ⟨fun hsrc hmode => ?stream, fun hsrc hmode => ?repeating, fun hsrc hn hb hm => ?fill,
    fun b bs hsrc hn hm hlast => ?mailBegins, fun r rs hsrc hn hb hlast => ?replyBegins,
    fun b bs j hsrc hrec hm => ?mailGoesOn, fun r rs j hsrc hrec hb => ?replyGoesOn⟩ <;> rw [hsrc]
  case stream =>
    rw [handSlotCell_anc, AncBuffer.nextBytes_stream hmode, AncBuffer.afterCell_stream hmode]
    rfl
  case repeating =>
    rw [handSlotCell_anc, AncBuffer.nextBytes_repeating hmode, AncBuffer.afterCell_repeating hmode]
    rfl
  case fill =>
    rw [handSlotCell_ret (returnCell_fill hn (State.chooseSource_none hb hm))]
    rfl
  case mailBegins =>
    have hsource := State.chooseSource_mail hm hlast
    rw [handSlotCell_ret (returnCell_begins hn hsource (State.headRecord?_mail hm))]
    rfl
  case replyBegins =>
    have hsource := State.chooseSource_forwardReply hb hlast
    rw [handSlotCell_ret (returnCell_begins hn hsource (State.headRecord?_forwardReply hb)), returnRecord_reply]
    rfl
  case mailGoesOn =>
    rw [handSlotCell_ret (returnCell_goesOn hrec (State.headRecord?_mail hm))]
    rfl
  case replyGoesOn =>
    rw [handSlotCell_ret (returnCell_goesOn hrec (State.headRecord?_forwardReply hb)), returnRecord_reply]
    rfl

end Sys2Proof.Machine
end

section
/-! PROOF of O60: the requests of the ancillary buffer and the mailboxes. The layers: what a run of bytes written upwards or
around a ring reads back as, and what it leaves; a request that reaches a listening port; what each request does at its
dispatch, case by case. -/

namespace Sys2Proof.Machine

/-! ### Runs of bytes -/

/-- A run of bytes leaves every address outside it alone. -/
theorem Memory.read_writeList_other (bs : List Byte) (m : Memory) {a c : Nat} (h : c < a ∨ a + bs.length ≤ c) :
    (Memory.writeList m a bs).read c = m.read c := by
  induction bs generalizing m a with
  | nil => rfl
  | cons b bs ih =>
    rw [List.length_cons] at h
    rw [Memory.writeList, ih _ (by omega), Memory.read_write_other m a c b (by omega)]

/-- A run of bytes is read back. -/
theorem Memory.read_writeList_same {bs : List Byte} {m : Memory} (hm : m.wf = true) (a : Nat) {j : Nat} {b : Byte}
    (hb : bs[j]? = some b) : (Memory.writeList m a bs).read (a + j) = b := by
  induction bs generalizing m a j with
  | nil => cases hb
  | cons x bs ih =>
    rw [Memory.writeList]
    cases j with
    | zero =>
      cases hb
      rw [Memory.read_writeList_other bs _ (by omega)]
      exact Memory.read_write_same m a b hm
    | succ j =>
      rw [Nat.add_comm j 1, ← Nat.add_assoc]
      exact ih (Memory.wf_write m a x hm) (a + 1) hb

/-- Where a ring is written depends on the starting address modulo its size. -/
theorem Memory.writeRing_mod (size : Nat) (m : Memory) (a : Nat) (bs : List Byte) :
    m.writeRing size (a % size) bs = m.writeRing size a bs := by
  cases bs with
  | nil => rfl
  | cons b bs => rw [Memory.writeRing, Memory.writeRing, Nat.mod_mod, Nat.mod_add_mod]

theorem Memory.writeRing_cons (size : Nat) (m : Memory) (a : Nat) (b : Byte) (bs : List Byte) :
    m.writeRing size a (b :: bs) = (m.write (a % size) b).writeRing size (a + 1) bs := by
  rw [Memory.writeRing, Memory.writeRing_mod]

/-- Bytes written around a ring leave every address they do not meet alone. -/
theorem Memory.read_writeRing_other (size : Nat) (bs : List Byte) (m : Memory) {a c : Nat}
    (h : ∀ j, j < bs.length → c ≠ (a + j) % size) : (m.writeRing size a bs).read c = m.read c := by
  induction bs generalizing m a with
  | nil => rfl
  | cons b bs ih =>
    have hrest : ∀ j, j < bs.length → c ≠ (a + 1 + j) % size := fun j hj => by
      rw [Nat.add_assoc, Nat.add_comm 1]
      exact h (j + 1) (Nat.succ_lt_succ hj)
    rw [Memory.writeRing_cons, ih _ hrest]
    exact Memory.read_write_other m _ c b (h 0 (Nat.succ_pos _))

/-- Less than a turn on, a ring has another address. -/
theorem mod_ne_add_mod {size k : Nat} (a : Nat) (hpos : 0 < k) (hlt : k < size) : a % size ≠ (a + k) % size :=
  fun h => by
    have hk : (a + k - a) % size = 0 := Nat.sub_mod_eq_zero_of_mod_eq h.symm
    rw [Nat.add_sub_cancel_left, Nat.mod_eq_of_lt hlt] at hk
    omega

/-- Bytes that fit in a ring are read back. -/
theorem Memory.read_writeRing_same {size : Nat} {bs : List Byte} {m : Memory} (hm : m.wf = true) (a : Nat)
    (hfit : bs.length ≤ size) {j : Nat} {b : Byte} (hb : bs[j]? = some b) :
    (m.writeRing size a bs).read ((a + j) % size) = b := by
  induction bs generalizing m a j with
  | nil => cases hb
  | cons x bs ih =>
    rw [List.length_cons] at hfit
    rw [Memory.writeRing_cons]
    cases j with
    | zero =>
      cases hb
      have hrest : ∀ j, j < bs.length → a % size ≠ (a + 1 + j) % size := fun j hj => by
        rw [Nat.add_assoc]
        exact mod_ne_add_mod a (by omega) (by omega)
      exact (Memory.read_writeRing_other size bs _ hrest).trans (Memory.read_write_same m _ b hm)
    | succ j =>
      rw [Nat.add_comm j 1, ← Nat.add_assoc]
      exact ih (Memory.wf_write m _ x hm) (a + 1) (by omega) hb

/-! ### A request that reaches a listening port (R154 to R156) -/

theorem ofBe16_halves (w : Word) : ofBe16 (w.extractLsb' 8 8) (w.extractLsb' 0 8) = w :=
  BitVec.extractLsb'_append_extractLsb'_eq_extractLsb' (by rfl) |>.trans BitVec.extractLsb'_eq_self

/-- R155: a request whose body its kind's parser reads back passes the generic checks. -/
theorem parseRecord_of_body {q : Request} {parse : List Byte → Option Request} (hk : bodyParser? q.kind = some parse)
    (hb : parse q.body = some q) : parseRecord q.record = .ok q := by
  simp only [parseRecord, Request.record, hk, hb, Bool.not_true, Bool.false_eq_true, if_false]

theorem parseRecord_ancMode (m : Byte) (w : Word) : parseRecord (Request.ancMode m w).record = .ok (.ancMode m w) :=
  parseRecord_of_body rfl (congrArg (fun x => some (Request.ancMode m x)) (ofBe16_halves w))

theorem parseRecord_ancLoad (o : Word) {bytes : List Byte} (hlen : bytes.length ≤ 510) :
    parseRecord (Request.ancLoad o bytes).record = .ok (.ancLoad o bytes) :=
  parseRecord_of_body rfl ((if_pos hlen).trans (congrArg (fun x => some (Request.ancLoad x bytes)) (ofBe16_halves o)))

theorem parseRecord_mailSend {body : List Byte} (hlen : body.length ≤ 64) :
    parseRecord (Request.mailSend body).record = .ok (.mailSend body) :=
  parseRecord_of_body rfl (if_pos hlen)

theorem parseRecord_mailFetch : parseRecord Request.mailFetch.record = .ok .mailFetch := parseRecord_of_body rfl rfl

/-- R154: a port that listens dispatches a request that passes the generic checks at once. -/
theorem exec_request_of_listens {i : Instr} {q : Request} {s : State} (hs : s.Listens) (hi : i.request? = some q)
    (hq : parseRecord q.record = .ok q) : exec i s = .next (sendReply q.kind (perform q s)) := by
  obtain ⟨hrunning, hreply, -⟩ := hs
  rw [request_arrives hi, requestArrives, whenRunning_running s _ hrunning]
  simp only [recordComplete, hreply, dispatch, hq]
  rfl

theorem sendReply_refused (kind : Byte) (s : State) (o : ReqOutcome) :
    sendReply kind (refused s o) = s.answered kind o [] := rfl

theorem sendReply_done (kind : Byte) (s : State) (body : List Byte) :
    sendReply kind (done s body) = s.answered kind .done body := rfl

/-! ### What each request does at its dispatch (R143, R144, R147, R150) -/

theorem doAncMode_of_not_inRange {m : Byte} {w : Word} (h : ¬(m.toNat ≤ 1 ∧ w.toNat ∈ repeatWindows)) (s : State) :
    doAncMode m w s = refused s .range := if_neg h

theorem doAncMode_of_inRange {m : Byte} {w : Word} (h : m.toNat ≤ 1 ∧ w.toNat ∈ repeatWindows) (s : State) :
    doAncMode m w s = done { s with anc :=
      ⟨s.anc.store, if m = 1 then .repeating else .stream, 0, 0, w.toNat, 0, 0⟩ } [] := if_pos h

theorem doAncLoad_stream_of_full {s : State} (hm : s.anc.mode = .stream) (o : Word) {bytes : List Byte}
    (h : 4096 < s.anc.fill + bytes.length) : doAncLoad o bytes s = refused s .full := by
  simp only [doAncLoad, hm, if_pos h]

theorem doAncLoad_stream_of_fits {s : State} (hm : s.anc.mode = .stream) (o : Word) {bytes : List Byte}
    (h : s.anc.fill + bytes.length ≤ 4096) :
    doAncLoad o bytes s = done { s with anc := { s.anc with
      store := s.anc.store.writeRing 4096 (s.anc.readPoint + s.anc.fill) bytes
      fill := s.anc.fill + bytes.length } } (be16n (s.anc.fill + bytes.length)) := by
  simp only [doAncLoad, hm, if_neg (Nat.not_lt.2 h), Memory.writeRing_mod]

theorem doAncLoad_repeating_of_outside {s : State} (hm : s.anc.mode = .repeating) {o : Word} {bytes : List Byte}
    (h : 4096 < o.toNat + bytes.length) : doAncLoad o bytes s = refused s .range := by
  simp only [doAncLoad, hm, if_pos h]

theorem doAncLoad_repeating_of_fits {s : State} (hm : s.anc.mode = .repeating) {o : Word} {bytes : List Byte}
    (h : o.toNat + bytes.length ≤ 4096) :
    doAncLoad o bytes s = done { s with anc := { s.anc with store := s.anc.store.writeList o.toNat bytes } }
      (be16n s.anc.fill) := by
  simp only [doAncLoad, hm, if_neg (Nat.not_lt.2 h)]

theorem doMailSend_of_full {s : State} (h : 8 ≤ s.mail.outbox.length) (body : List Byte) :
    doMailSend body s = refused s .full := if_pos h

theorem doMailSend_of_room {s : State} (h : s.mail.outbox.length < 8) (body : List Byte) :
    doMailSend body s = done { s with mail := { s.mail with outbox := s.mail.outbox ++ [body] } }
      [byteOf (s.mail.outbox.length + 1)] := if_neg (Nat.not_le.2 h)

theorem doMailFetch_of_nil {s : State} (h : s.mail.inbox = []) : doMailFetch s = refused s .empty := by
  simp only [doMailFetch, h]

theorem doMailFetch_of_cons {s : State} {b : List Byte} {bs : List (List Byte)} (h : s.mail.inbox = b :: bs) :
    doMailFetch s = done { s with mail := { s.mail with
      inbox := bs
      hold := holdAfter s.bus.remoteOutstanding bs.length s.mail.hold } } (byteOf bs.length :: b) := by
  simp only [doMailFetch, h]
  rfl

/-- Settles O60: a listening port performs each request at once; each conjunct is then one case of its dispatch, with the
store read back by the rules for a run of bytes. -/
theorem ancAndMailRequests : Obligations.AncAndMailRequests := by
  unfold Obligations.AncAndMailRequests
  intro s hs hstore a windows
  have hmode (m : Byte) (w : Word) : exec (.ancMode m w) s = .next (sendReply 0x38 (doAncMode m w s)) :=
    exec_request_of_listens hs rfl (parseRecord_ancMode m w)
  have hload (o : Word) {bytes : List Byte} (hlen : bytes.length ≤ 510) :
      exec (.ancLoad o bytes) s = .next (sendReply 0x39 (doAncLoad o bytes s)) :=
    exec_request_of_listens hs rfl (parseRecord_ancLoad o hlen)
  have hsend {b : List Byte} (hlen : b.length ≤ 64) :
      exec (.mailSend b) s = .next (sendReply 0x3A (doMailSend b s)) :=
    exec_request_of_listens hs rfl (parseRecord_mailSend hlen)
  have hfetch : exec .mailFetch s = .next (sendReply 0x3B (doMailFetch s)) :=
    exec_request_of_listens hs rfl parseRecord_mailFetch
  refine ⟨fun m w => ⟨fun hbad => ?modeRange, fun hok => ?mode⟩, fun o bytes hlen hm hfull => ?streamFull,
    fun o bytes hlen hm hfits => ?stream, fun o bytes hlen hm hout => ?repeatRange,
    fun o bytes hlen hm hfits => ?repeating, fun b hlen hfull => ?sendFull, fun b hlen hroom => ?send,
    fun hnil => ?fetchEmpty, fun b bs hcons => ?fetch⟩
  case modeRange => rw [hmode, doAncMode_of_not_inRange hbad, sendReply_refused]
  case mode => rw [hmode, doAncMode_of_inRange hok, sendReply_done]
  case streamFull => rw [hload o hlen, doAncLoad_stream_of_full hm o hfull, sendReply_refused]
  case stream =>
    refine ⟨_, by rw [hload o hlen, doAncLoad_stream_of_fits hm o hfits, sendReply_done], ?_, ?_⟩
    · exact fun j b hb => Memory.read_writeRing_same hstore _ (by omega) hb
    · exact fun addr hother => Memory.read_writeRing_other 4096 bytes _ hother
  case repeatRange => rw [hload o hlen, doAncLoad_repeating_of_outside hm hout, sendReply_refused]
  case repeating =>
    refine ⟨_, by rw [hload o hlen, doAncLoad_repeating_of_fits hm hfits, sendReply_done], ?_, ?_⟩
    · exact fun j b hb => Memory.read_writeList_same hstore _ hb
    · exact fun addr hother => Memory.read_writeList_other bytes _ hother
  case sendFull => rw [hsend hlen, doMailSend_of_full hfull, sendReply_refused]
  case send => rw [hsend hlen, doMailSend_of_room hroom, sendReply_done]
  case fetchEmpty => rw [hfetch, doMailFetch_of_nil hnil, sendReply_refused]
  case fetch =>
    rw [hfetch, doMailFetch_of_cons hcons, sendReply_done]
    rfl

end Sys2Proof.Machine
end

section
/-! PROOF of O6: while RESETN is low no command acts but a power-on and the two events of a lane's pin, and ATTN is low. -/

namespace Sys2Proof.Machine

/-- Every command but a power-on and the two events of a lane's pin acts only while the part runs. -/
theorem exec_of_low {i : Instr} {s : State} (hlow : s.resetLow = true) (hpower : ∀ r b, i ≠ .powerOn r b)
    (hpresent : ∀ p, i ≠ .laneSignalPresent p) (hlost : ∀ p, i ≠ .laneSignalLost p) : exec i s = .next s := by
  cases i with
  | powerOn r b => exact absurd rfl (hpower r b)
  | laneSignalPresent p => exact absurd rfl (hpresent p)
  | laneSignalLost p => exact absurd rfl (hlost p)
  | _ => exact congrArg Host.Outcome.next (if_pos hlow)

theorem State.attn_of_low {s : State} (hlow : s.resetLow = true) : s.attn = false := by
  simp only [State.attn, hlow, Bool.not_true, Bool.false_and]

/-- Settles O6: the command acts only while the part runs, and ATTN is gated by RESETN. -/
theorem heldLowTakesNothing : Obligations.HeldLowTakesNothing := by
  unfold Obligations.HeldLowTakesNothing
  intro i s hlow hpower hpresent hlost
  exact ⟨exec_of_low hlow hpower hpresent hlost, State.attn_of_low hlow⟩

end Sys2Proof.Machine
end

section
/-! PROOF of O47: IDENTIFY. -/

namespace Sys2Proof.Machine

/-- Settles O47: a listening port dispatches IDENTIFY at once, which leaves the state as it is; the part code's two bytes
evaluate, and the unique number stays the constant it is. -/
theorem identify : Obligations.Identify := by
  unfold Obligations.Identify
  intro s hs
  have hexec : exec .identify s = .next (sendReply 0x01 (doIdentify s)) :=
    exec_request_of_listens (q := .identify) hs rfl (parseRecord_of_body rfl rfl)
  rw [hexec, doIdentify, sendReply_done]
  rfl

end Sys2Proof.Machine
end

section
/-! PROOF of O44: request records and request rows. The layers: fields read back from their bytes; every request read back
from its record; what the first bytes of a record, and all of them, amount to; the receiver fed with them. -/

namespace Sys2Proof.Machine

/-! ### Fields read back from their bytes (sections 5.1 and 10.7, R157) -/

@[simp] theorem be16_length (w : Word) : (be16 w).length = 2 := rfl

/-- A field of a field is a field of the whole. -/
theorem extractLsb'_extractLsb' {w start len outer width : Nat} (m : BitVec w) (h : start + len ≤ width) :
    (m.extractLsb' outer width).extractLsb' start len = m.extractLsb' (outer + start) len := by
  ext i hi
  have hin : start + i < width := by omega
  simp only [BitVec.getElem_extractLsb', BitVec.getLsbD_extractLsb', hin, decide_true, Bool.true_and, Nat.add_assoc]

/-- Four neighbouring 2-byte fields are an 8-byte field. -/
theorem append_quarters (m : BitVec 64) : m.extractLsb' 48 16 ++ (m.extractLsb' 32 16
    ++ (m.extractLsb' 16 16 ++ m.extractLsb' 0 16)) = m := by
  rw [BitVec.extractLsb'_append_extractLsb'_eq_extractLsb' (start₁ := 0) (len₁ := 16) rfl,
    BitVec.extractLsb'_append_extractLsb'_eq_extractLsb' (start₁ := 0) (len₁ := 32) rfl,
    BitVec.extractLsb'_append_extractLsb'_eq_extractLsb' (start₁ := 0) (len₁ := 48) rfl, BitVec.extractLsb'_eq_self]

theorem parseSetAttnMask_be64 (m : BitVec 64) : parseSetAttnMask (be64 m) = some (.setAttnMask m) := by
  show some (Request.setAttnMask (ofBe16 _ _ ++ (ofBe16 _ _ ++ (ofBe16 _ _ ++ ofBe16 _ _)))) = _
  rw [ofBe16_halves, ofBe16_halves, ofBe16_halves, ofBe16_halves]
  simp only [extractLsb'_extractLsb', Nat.reduceAdd, Nat.le_refl, Nat.reduceLeDiff]
  exact congrArg (fun x => some (Request.setAttnMask x)) (append_quarters m)

theorem pairWords_wordBytes (ws : List Word) : pairWords (wordBytes ws) = ws := by
  induction ws with
  | nil => rfl
  | cons w ws ih =>
    show ofBe16 _ _ :: pairWords (wordBytes ws) = _
    rw [ofBe16_halves, ih]

theorem slotTriples_bytes (es : List SlotFields) : slotTriples (es.flatMap SlotFields.bytes) = es := by
  induction es with
  | nil => rfl
  | cons e es ih => exact congrArg (e :: ·) ih

@[simp] theorem slotBytes_length (es : List SlotFields) : (es.flatMap SlotFields.bytes).length = 3 * es.length := by
  induction es with
  | nil => rfl
  | cons e es ih =>
    rw [List.flatMap_cons, List.length_append, ih, List.length_cons, Nat.mul_succ, Nat.add_comm]
    rfl

theorem byteOf_toNat {k : Nat} (h : k ≤ 255) : (byteOf k).toNat = k :=
  BitVec.toNat_ofNat .. |>.trans (Nat.mod_eq_of_lt (by omega))

/-! ### Every request is read back from its record (R155, section 10.4) -/

theorem parseClearFlags_body {ns : List Byte} (h : ns.length ≤ 255) :
    parseClearFlags (Request.clearFlags ns).body = some (.clearFlags ns) :=
  if_pos (byteOf_toNat h).symm

theorem parseSetTiming_body (f : Word) (d : Byte) (p g : Word) :
    parseSetTiming (Request.setTiming f d p g).body = some (.setTiming f d p g) := by
  show some (Request.setTiming (ofBe16 _ _) d (ofBe16 _ _) (ofBe16 _ _)) = _
  simp only [ofBe16_halves]

theorem parseSetPort_body (p : Byte) (f : PortFields) :
    parseSetPort (Request.setPort p f).body = some (.setPort p f) := by
  show some (Request.setPort p ⟨_, _, _, ofBe16 _ _, _, _, ofBe16 _ _, ofBe16 _ _, _, _, _⟩) = _
  simp only [ofBe16_halves]

theorem parseByteWord_body (f : Byte → Word → Request) (b : Byte) (w : Word) :
    parseByteWord f (b :: be16 w) = some (f b w) :=
  congrArg (fun x => some (f b x)) (ofBe16_halves w)

theorem parseSetBus_body (t : Word) (m : Byte) : parseSetBus (Request.setBus t m).body = some (.setBus t m) :=
  congrArg (fun x => some (Request.setBus x m)) (ofBe16_halves t)

theorem parseStageSlots_body (first len : Byte) {es : List SlotFields} (h : es.length ≤ 169) :
    parseStageSlots (Request.stageSlots first len es).body = some (.stageSlots first len es) := by
  have hlen : (es.flatMap SlotFields.bytes).length = 3 * (byteOf es.length).toNat := by
    rw [slotBytes_length, byteOf_toNat (by omega)]
  exact (if_pos hlen).trans (congrArg (fun x => some (Request.stageSlots first len x)) (slotTriples_bytes es))

/-- R126: a well-formed FORWARD has two bytes of words for each of its count if it is a WRITE, else none. -/
theorem forwardWords_length {f : ForwardFields} (h : f.wellFormed = true) :
    (wordBytes f.words).length = (if f.kind = 0 then 2 * f.count.toNat else 0)
      ∧ (wordBytes f.words).length ≤ 506 := by
  rw [wordBytes_length]
  unfold ForwardFields.wellFormed at h
  split at h
  · simp only [Bool.and_eq_true, beq_iff_eq, decide_eq_true_eq] at h
    rw [if_pos ‹_›]
    omega
  · rw [if_neg ‹_›, List.isEmpty_iff.1 h]
    exact ⟨rfl, Nat.zero_le _⟩

theorem parseForward_body {f : ForwardFields} (h : f.wellFormed = true) :
    parseForward (Request.forward f).body = some (.forward f) := by
  refine (if_pos (forwardWords_length h).1).trans ?_
  show some (Request.forward ⟨_, _, _, ofBe16 _ _, _, pairWords (wordBytes f.words)⟩) = _
  rw [ofBe16_halves, pairWords_wordBytes]

/-- R155: a well-formed request passes the generic checks. -/
theorem parseRecord_record {q : Request} (h : q.wellFormed = true) : parseRecord q.record = .ok q := by
  cases q with
  | clearFlags ns => exact parseRecord_of_body rfl (parseClearFlags_body (of_decide_eq_true h))
  | setAttnMask m => exact parseRecord_of_body rfl (parseSetAttnMask_be64 m)
  | setTiming f d p g => exact parseRecord_of_body rfl (parseSetTiming_body f d p g)
  | setPort p f => exact parseRecord_of_body rfl (parseSetPort_body p f)
  | setTrim p t => exact parseRecord_of_body rfl (parseByteWord_body .setTrim p t)
  | stageSlots first len es => exact parseRecord_of_body rfl (parseStageSlots_body first len (of_decide_eq_true h))
  | setLink c t => exact parseRecord_of_body rfl (parseByteWord_body .setLink c t)
  | forward f => exact parseRecord_of_body rfl (parseForward_body h)
  | setBus t m => exact parseRecord_of_body rfl (parseSetBus_body t m)
  | ancMode m w => exact parseRecord_ancMode m w
  | ancLoad o bs => exact parseRecord_ancLoad o (of_decide_eq_true h)
  | mailSend b => exact parseRecord_mailSend (of_decide_eq_true h)
  | _ => exact parseRecord_of_body rfl rfl

/-- R152: a well-formed request's body is one the receiver takes. -/
theorem body_length_le {q : Request} (h : q.wellFormed = true) : q.body.length ≤ 512 := by
  cases q with
  | clearFlags ns =>
    have hns : ns.length ≤ 255 := of_decide_eq_true h
    simp only [Request.body, List.length_cons]
    omega
  | stageSlots first len es =>
    have hes : es.length ≤ 169 := of_decide_eq_true h
    simp only [Request.body, List.length_append, List.length_cons, List.length_nil, slotBytes_length]
    omega
  | forward f =>
    have hwords := (forwardWords_length h).2
    simp only [Request.body, List.length_append, List.length_cons, List.length_nil, be16_length]
    omega
  | ancLoad o bs =>
    have hbs : bs.length ≤ 510 := of_decide_eq_true h
    simp only [Request.body, List.length_append, be16_length]
    omega
  | mailSend b => exact Nat.le_trans (of_decide_eq_true h : b.length ≤ 64) (by decide)
  | _ => exact Nat.le_of_ble_eq_true rfl

theorem request?_command (q : Request) : q.command.request? = some q := by
  cases q <;> rfl

/-! ### What the bytes of a record amount to (R152) -/

/-- A header whose body length the port takes, with the body or the check still short, is a part of a record. -/
theorem recordShape_header {c kind h l : Byte} {rest : List Byte} (hn : (ofBe16 h l).toNat ≤ 512)
    (hrest : rest.length < (ofBe16 h l).toNat + 2) : recordShape (c :: kind :: h :: l :: rest) = .partly :=
  (if_neg (Nat.not_lt.2 hn)).trans (if_pos hrest)

theorem ofBe16_be16n {n : Nat} (h : n ≤ 512) :
    (ofBe16 ((BitVec.ofNat 16 n).extractLsb' 8 8) ((BitVec.ofNat 16 n).extractLsb' 0 8)).toNat = n := by
  rw [ofBe16_halves, BitVec.toNat_ofNat, Nat.mod_eq_of_lt (by omega)]

/-- Any bytes short of the whole record are only a part of it. -/
theorem recordShape_short {r : ReqRecord} (hlen : r.body.length ≤ 512) {front back : List Byte} {b : Byte}
    (hsplit : front ++ b :: back = requestBytes r) : recordShape front = .partly := by
  match front, hsplit with
  | [], _ | [_], _ | [_, _], _ | [_, _, _], _ => rfl
  | c :: kind :: h :: l :: rest, hsplit =>
    simp only [requestBytes, withCheck, be16n, be16, List.cons_append, List.nil_append, List.cons.injEq] at hsplit
    obtain ⟨-, -, rfl, rfl, hrest⟩ := hsplit
    have hcount := congrArg List.length hrest
    simp only [List.length_append, List.length_cons, List.length_nil] at hcount
    apply recordShape_header <;> rw [ofBe16_be16n hlen] <;> omega

/-- Lead byte, kind, body length, body and two bytes more are a complete record, good if the two are its check. -/
theorem recordShape_whole (kind : Byte) {body : List Byte} (hlen : body.length ≤ 512) (check : Word) :
    recordShape ([0xC3, kind] ++ be16n body.length ++ body ++ be16 check)
      = .complete ⟨kind, body, be16 check = be16 (checkOf ([0xC3, kind] ++ be16n body.length ++ body))⟩ := by
  have hcovered : ([0xC3, kind] ++ be16n body.length ++ body ++ be16 check).take (4 + body.length)
      = [0xC3, kind] ++ be16n body.length ++ body := List.take_left' (by rw [List.length_append]; rfl)
  have hlong : ¬(body ++ be16 check).length < body.length + 2 := by
    rw [List.length_append, be16_length]
    exact Nat.lt_irrefl _
  simp only [be16n, be16, List.cons_append, List.nil_append] at hcovered hlong ⊢
  simp only [recordShape, ofBe16_be16n hlen, if_neg (Nat.not_lt.2 hlen), if_neg hlong, hcovered, List.take_left,
    List.drop_left]
  rfl

/-- The record's own bytes are complete, with its check good. -/
theorem recordShape_requestBytes {r : ReqRecord} (hlen : r.body.length ≤ 512) (hgood : r.checkOk = true) :
    recordShape (requestBytes r) = .complete r := by
  refine (recordShape_whole r.kind hlen _).trans ?_
  rw [decide_eq_true rfl, ← hgood]

/-! ### The receiver fed with a record (R152, R154) -/

theorem exec_mgmtByte_of_running {s : State} (hrunning : s.resetLow = false) (b : Byte) :
    exec (.mgmtByte b) s = .next (takeByte b s) := whenRunning_running s _ hrunning

theorem takeByte_lead {s : State} (hrx : s.mgmt.rx = .hunting) :
    takeByte 0xC3 s = setReceiver (.receiving [0xC3]) (some (later s.timebase 297000)) s := by
  simp only [takeByte, hrx, if_true]

theorem takeByte_partly {s : State} {front : List Byte} {b : Byte} (hrx : s.mgmt.rx = .receiving front)
    (hshape : recordShape (front ++ [b]) = .partly) :
    takeByte b s = setReceiver (.receiving (front ++ [b])) (some (later s.timebase 297000)) s := by
  simp only [takeByte, hrx, collectByte, hshape]

theorem takeByte_complete {s : State} {front : List Byte} {b : Byte} {r : ReqRecord}
    (hrx : s.mgmt.rx = .receiving front) (hshape : recordShape (front ++ [b]) = .complete r) :
    takeByte b s = recordComplete r (setReceiver .hunting none s) := by
  simp only [takeByte, hrx, collectByte, hshape]

theorem runCommands_mgmtByte {s : State} (hrunning : s.resetLow = false) (b : Byte) (bs : List Byte) :
    runCommands ((b :: bs).map .mgmtByte) s = runCommands (bs.map .mgmtByte) (takeByte b s) := by
  rw [List.map_cons, runCommands, exec_mgmtByte_of_running hrunning]

/-- The rest of a record's bytes, of which the receiver holds the front, complete it. -/
theorem runCommands_restOfRecord {r : ReqRecord} (hlen : r.body.length ≤ 512) (hgood : r.checkOk = true)
    {front rest : List Byte} {b : Byte} {s : State} (hsplit : front ++ b :: rest = requestBytes r)
    (hrunning : s.resetLow = false) (hrx : s.mgmt.rx = .receiving front) :
    runCommands ((b :: rest).map .mgmtByte) s = .next (recordComplete r (setReceiver .hunting none s)) := by
  induction rest generalizing front b s with
  | nil =>
    have hshape : recordShape (front ++ [b]) = .complete r := hsplit ▸ recordShape_requestBytes hlen hgood
    rw [runCommands_mgmtByte hrunning, takeByte_complete hrx hshape]
    rfl
  | cons c rest ih =>
    have hsplit' : (front ++ [b]) ++ c :: rest = requestBytes r := by rw [List.append_assoc]; exact hsplit
    rw [runCommands_mgmtByte hrunning, takeByte_partly hrx (recordShape_short hlen hsplit')]
    exact ih hsplit' hrunning rfl

theorem setReceiver_self {s : State} (hrx : s.mgmt.rx = .hunting) (hgap : s.mgmt.gapExpiry = none) :
    setReceiver .hunting none s = s := by
  rw [setReceiver, ← hrx, ← hgap]

/-- A record's bytes, sent to a hunting receiver, bring the record whole. -/
theorem runCommands_requestBytes {r : ReqRecord} (hlen : r.body.length ≤ 512) (hgood : r.checkOk = true) {s : State}
    (hrunning : s.resetLow = false) (hrx : s.mgmt.rx = .hunting) (hgap : s.mgmt.gapExpiry = none) :
    runCommands ((requestBytes r).map .mgmtByte) s = .next (recordComplete r s) := by
  have hlead : requestBytes r = 0xC3 :: r.kind :: (requestBytes r).drop 2 := rfl
  rw [hlead, runCommands_mgmtByte hrunning, takeByte_lead hrx]
  refine (runCommands_restOfRecord hlen hgood (front := [0xC3]) hlead.symm (s := setReceiver (.receiving [0xC3]) _ s)
    hrunning rfl).trans ?_
  exact congrArg (fun t => Host.Outcome.next (recordComplete r t)) (setReceiver_self hrx hgap)

/-- Settles O44: the generic checks read the request back, and its record's bytes and its row both bring that record. -/
theorem requestRecordsAreRows : Obligations.RequestRecordsAreRows := by
  unfold Obligations.RequestRecordsAreRows
  intro q hq
  refine ⟨parseRecord_record hq, request?_command q, fun s hrunning hrx hgap => ?_⟩
  rw [request_arrives (request?_command q), requestArrives, whenRunning_running s _ hrunning]
  exact runCommands_requestBytes (body_length_le hq) rfl hrunning hrx hgap

end Sys2Proof.Machine
end

section
/-! PROOF of O28: a flag once set stays set. The layers: `FlagsKept`, the preorder of the states that keep every set
flag, and the few ways a command touches the flags; one lemma for each operation, block by block, by composition; every
command. -/

namespace Sys2Proof.Machine

/-- R160: every flag set in the one state is set in the other. -/
structure FlagsKept (s t : State) : Prop where
  hasFlag : ∀ f : Flag, s.hasFlag f = true → t.hasFlag f = true

namespace FlagsKept

theorem of_flags {s t : State} (h : t.flagUnit.flags = s.flagUnit.flags) : FlagsKept s t where
  hasFlag f hf := by
    rw [State.hasFlag, h]
    exact hf

theorem refl (s : State) : FlagsKept s s := .of_flags rfl

theorem trans {s t u : State} (h : FlagsKept s t) (h' : FlagsKept t u) : FlagsKept s u where
  hasFlag f hf := h'.hasFlag f (h.hasFlag f hf)

theorem then_flags {s t u : State} (h : FlagsKept s t) (hu : u.flagUnit.flags = t.flagUnit.flags) : FlagsKept s u :=
  h.trans (.of_flags hu)

theorem after_flags {s t u : State} (h : FlagsKept t u) (ht : t.flagUnit.flags = s.flagUnit.flags) : FlagsKept s u :=
  .trans (.of_flags ht) h

theorem onBus {s t : State} {f : Bus → Bus} (h : FlagsKept s t) : FlagsKept s (t.onBus f) := h.then_flags rfl

/-- Setting a flag adds it to those that are set. -/
theorem setFlag {s t : State} {f : Flag} (h : FlagsKept s t) : FlagsKept s (t.setFlag f) where
  hasFlag g hg := by rw [State.hasFlag_setFlag, h.hasFlag g hg, Bool.true_or]

theorem setFlagIf {s t : State} {c : Bool} {f : Flag} (h : FlagsKept s t) : FlagsKept s (t.setFlagIf c f) := by
  cases c with
  | false => exact h
  | true => exact h.setFlag

/-- What keeps the flags under a condition, and else does nothing. -/
theorem ite {c : Prop} [Decidable c] {s t : State} (h : FlagsKept s t) : FlagsKept s (if c then t else s) := by
  split
  · exact h
  · exact .refl s

theorem forPorts {f : PortId → State → State} (hf : ∀ p s, FlagsKept s (f p s)) (s : State) :
    FlagsKept s (forPorts f s) :=
  forPorts_induct (FlagsKept s) f (fun p t h => h.trans (hf p t)) s (.refl s)

end FlagsKept

end Sys2Proof.Machine
end

section
/-! The Board Bus Controller and the Triax Link keep the flags. -/

namespace Sys2Proof.Machine

/-! ### The board bus (R129 to R138) -/

theorem grantRemote_keepsFlags (e : RemoteEntry) (rest : List RemoteEntry) (s : State) :
    FlagsKept s (grantRemote e rest s) := by
  unfold grantRemote
  dsimp only
  split
  · split
    · exact .of_flags rfl
    · exact .setFlag (.of_flags rfl)
  · exact .of_flags rfl

theorem busAct_keepsFlags {s t : State} (h : busAct s = some t) : FlagsKept s t := by
  rcases busAct_cases h with ⟨e, rest, -, -, rfl⟩ | h
  · exact .then_flags (.setFlag (.of_flags rfl)) rfl
  · rcases arbitrate_cases h with ⟨-, -, ⟨x, rest, -, rfl, -⟩ | ⟨e, rest, -, rfl, -⟩⟩
    · exact .of_flags rfl
    · exact grantRemote_keepsFlags e rest s

theorem settleBus_keepsFlags (s : State) : FlagsKept s (settleBus s) :=
  settleBus_induct (FlagsKept s) (fun _ _ hact h => h.trans (busAct_keepsFlags hact)) s (.refl s)

theorem sendOrAwait_keepsFlags (t : BusTxn) (s : State) : FlagsKept s (sendOrAwait t s) := by
  unfold sendOrAwait
  split <;> exact .of_flags rfl

theorem countResult_keepsFlags (r : BusResult) (s : State) : FlagsKept s (countResult r s) := by
  cases r with
  | nak => exact .setFlag (.of_flags rfl)
  | timeout => exact .setFlag (.of_flags rfl)
  | underrun => exact .setFlag (.of_flags rfl)
  | _ => exact .refl s

theorem placeReply_keepsFlags (record : RecordStatus) (r : BusReply) (s : State) :
    FlagsKept s (placeReply record r s) := by
  cases record with
  | failed => exact .setFlag (.of_flags rfl)
  | _ => exact .of_flags rfl

/-- R135, R136, R138: however a transaction leaves the bus, its result is counted, its reply placed and the bus handed
on. -/
theorem settleResult_keepsFlags {s u : State} {result : BusResult} {record : RecordStatus} {r : BusReply}
    (hu : u.flagUnit.flags = s.flagUnit.flags) : FlagsKept s (settleBus (placeReply record r (countResult result u))) :=
  (((countResult_keepsFlags result u).after_flags hu).trans (placeReply_keepsFlags record r _)).trans
    (settleBus_keepsFlags _)

theorem endTxn_keepsFlags (t : BusTxn) (result : BusResult) (done : Nat) (s : State) :
    FlagsKept s (endTxn t result done s) := by
  unfold endTxn
  exact settleResult_keepsFlags rfl

theorem underrun_keepsFlags (t : BusTxn) (s : State) : FlagsKept s (underrun t s) := by
  unfold underrun
  exact .onBus (settleResult_keepsFlags rfl)

theorem wordEnded_keepsFlags (t : BusTxn) (s : State) : FlagsKept s (wordEnded t s) := by
  unfold wordEnded
  split
  · split
    · exact sendOrAwait_keepsFlags t s
    · exact .of_flags rfl
  · dsimp only
    split
    · exact sendOrAwait_keepsFlags _ s
    · split
      · exact endTxn_keepsFlags _ _ _ s
      · exact .of_flags rfl
  · exact .refl s
  · exact .refl s

theorem boardAnswered_keepsFlags (t : BusTxn) (a : BoardAnswer) (s : State) : FlagsKept s (boardAnswered t a s) := by
  unfold boardAnswered
  split
  · split
    · cases a <;> exact endTxn_keepsFlags _ _ _ s
    · split
      · exact .refl s
      · cases a with
        | ack => exact .of_flags rfl
        | nak => exact endTxn_keepsFlags _ _ _ s
  · exact .refl s
  · exact .refl s
  · exact .refl s

theorem wordRead_keepsFlags (t : BusTxn) (w : Word) (s : State) : FlagsKept s (wordRead t w s) := by
  unfold wordRead
  refine .ite ?_
  dsimp only
  split
  · exact .of_flags rfl
  · exact endTxn_keepsFlags _ _ _ s

theorem waitExpired_keepsFlags (t : BusTxn) (s : State) : FlagsKept s (waitExpired t s) := by
  unfold waitExpired
  split
  · exact endTxn_keepsFlags _ _ _ s
  · exact underrun_keepsFlags t s
  · exact .refl s
  · exact .refl s

theorem withBusTxn_keepsFlags {f : BusTxn → State → State} (hf : ∀ t s, FlagsKept s (f t s)) (s : State) :
    FlagsKept s (withBusTxn f s) := by
  unfold withBusTxn
  split
  · exact hf _ s
  · exact .refl s

/-! ### The uplink's records (R117 to R119, R127 to R129, R138) -/

theorem feedBusTxn_keepsFlags (t : BusTxn) (b : Byte) (s : State) : FlagsKept s (feedBusTxn t b s) := by
  unfold feedBusTxn
  dsimp only
  split
  · exact sendOrAwait_keepsFlags _ s
  · exact .of_flags rfl

theorem feedRemote_keepsFlags (inBody : Bool) (b : Byte) (s : State) : FlagsKept s (feedRemote inBody b s) := by
  unfold feedRemote
  split
  · exact (settleBus_keepsFlags _).after_flags rfl
  · split
    · exact .ite (feedBusTxn_keepsFlags _ b s)
    · exact .refl s

theorem resolvePending_keepsFlags (reply : BusReply) (r : RecordEnd) (s : State) :
    FlagsKept s (resolvePending reply r s) := by
  unfold resolvePending
  dsimp only
  split <;> exact .after_flags (placeReply_keepsFlags _ reply _) rfl

/-- R129: the end of a record whose head is not in sets REMOTE_CHECK. -/
theorem remoteRecordEnded_keepsFlags (r : RecordEnd) (s : State) : FlagsKept s (remoteRecordEnded r s) := by
  unfold remoteRecordEnded
  split
  · refine .trans ?_ (settleBus_keepsFlags _)
    split
    · exact .then_flags (.setFlag (.of_flags rfl)) rfl
    · exact .of_flags rfl
  · split
    · exact .ite (.of_flags rfl)
    · exact .refl s

theorem reportRecordEnd_keepsFlags (r : RecordEnd) (s : State) : FlagsKept s (reportRecordEnd r s) := by
  unfold reportRecordEnd
  split
  · exact resolvePending_keepsFlags _ r s
  · exact remoteRecordEnded_keepsFlags r s

theorem dropRemote_keepsFlags (s : State) : FlagsKept s (dropRemote s) := .setFlag (.of_flags rfl)

theorem dropMail_keepsFlags (s : State) : FlagsKept s (dropMail s) := .setFlag (.of_flags rfl)

theorem mailEnded_keepsFlags (pass : Bool) (r : RecordIn) (s : State) : FlagsKept s (mailEnded pass r s) := by
  unfold mailEnded
  split
  · exact .of_flags rfl
  · exact dropMail_keepsFlags s

theorem endRecord_keepsFlags (r : RecordIn) (short : Bool) (s : State) : FlagsKept s (endRecord r short s) := by
  unfold endRecord
  dsimp only
  split
  · split
    · exact (reportRecordEnd_keepsFlags _ _).after_flags rfl
    · exact (mailEnded_keepsFlags _ r _).after_flags rfl
    · exact .of_flags rfl
  · exact .of_flags rfl

theorem abandonRecord_keepsFlags (s : State) : FlagsKept s (abandonRecord s) := by
  rcases abandonRecord_cases s with ⟨-, e⟩ | e | e | e <;> rw [e]
  · exact .refl s
  · exact .of_flags rfl
  · exact (dropMail_keepsFlags _).after_flags rfl
  · exact (reportRecordEnd_keepsFlags .abandoned _).after_flags rfl

theorem routeRecord_keepsFlags (r : RecordIn) (s : State) : FlagsKept s (routeRecord r s) := by
  unfold routeRecord
  split
  · split
    · exact .of_flags rfl
    · exact (dropRemote_keepsFlags s).then_flags rfl
  · split
    · exact .of_flags rfl
    · exact (dropMail_keepsFlags s).then_flags rfl
  · exact .of_flags rfl

theorem recordByte_keepsFlags (r : RecordIn) (b : Byte) (s : State) : FlagsKept s (recordByte r b s) := by
  have hfeed : ∀ inBody a, FlagsKept s (feedRemote inBody b (setAssembly a s)) :=
    fun inBody a => (feedRemote_keepsFlags inBody b (setAssembly a s)).after_flags rfl
  unfold recordByte
  dsimp only
  split
  · split
    · exact routeRecord_keepsFlags _ s
    · exact .of_flags rfl
  · split
    · split
      · exact .of_flags rfl
      · exact hfeed true _
      · exact .of_flags rfl
    · refine .trans ?_ (.ite (endRecord_keepsFlags _ false _))
      split
      · exact hfeed false _
      · exact .of_flags rfl
      · exact .of_flags rfl

theorem payloadByte_keepsFlags (s : State) (b : Byte) : FlagsKept s (payloadByte s b) := by
  unfold payloadByte
  split
  · exact recordByte_keepsFlags _ b s
  · exact .refl s
  · exact .refl s

theorem payload_keepsFlags (bytes : List Byte) (s : State) : FlagsKept s (bytes.foldl payloadByte s) := by
  induction bytes generalizing s with
  | nil => exact .refl s
  | cons b bytes ih => exact (payloadByte_keepsFlags s b).trans (ih _)

theorem lastMark_keepsFlags (s : State) : FlagsKept s (lastMark s) := by
  unfold lastMark
  split
  · exact endRecord_keepsFlags _ true s
  · exact .of_flags rfl
  · exact .refl s

theorem takeSegment_keepsFlags (marks len : Byte) (payload : List Byte) (s : State) :
    FlagsKept s (takeSegment marks len payload s) := by
  have hfirst : FlagsKept s (setAssembly (.collecting RecordIn.fresh) (abandonRecord s)) :=
    (abandonRecord_keepsFlags s).then_flags rfl
  unfold takeSegment
  split
  · exact .refl s
  · exact (hfirst.ite.trans (payload_keepsFlags _ _)).trans (.ite (lastMark_keepsFlags _))

/-! ### The link's blocks (R106, R107, R110, R113, R114) -/

theorem linkLoss_keepsFlags (s : State) : FlagsKept s (linkLoss s) :=
  .setFlag (.then_flags (abandonRecord_keepsFlags s) rfl)

theorem takeFailedBlock_keepsFlags (s : State) : FlagsKept s (takeFailedBlock s) := by
  have hcount : FlagsKept s
      ((s.countLink fun c => { c with uplinkErrors := bump c.uplinkErrors }).setFlag .uplinkCheck) :=
    .setFlag (.of_flags rfl)
  have habandon := hcount.trans (abandonRecord_keepsFlags _)
  unfold takeFailedBlock
  dsimp only
  split
  · exact habandon
  · split
    · refine .trans ?_ (linkLoss_keepsFlags _)
      exact habandon.then_flags rfl
    · exact habandon.then_flags rfl

theorem takeOffer_flags (k : Nat) (s : State) : (takeOffer k s).flagUnit.flags = s.flagUnit.flags := by
  unfold takeOffer
  dsimp only
  split <;> rfl

/-- R114: a decision may set STEPPED_DOWN or LINK_FLOOR. -/
theorem healthDecision_keepsFlags (s : State) : FlagsKept s (healthDecision s) := by
  unfold healthDecision
  dsimp only
  split
  · split
    · exact .setFlag (.of_flags rfl)
    · exact .setFlag (.of_flags rfl)
  · exact .ite (.of_flags rfl)

theorem takeHealth_keepsFlags (e : Nat) (s : State) : FlagsKept s (takeHealth e s) := by
  unfold takeHealth
  dsimp only
  split
  · exact (healthDecision_keepsFlags _).after_flags rfl
  · exact .of_flags rfl

end Sys2Proof.Machine
end

section
/-! The lanes, the line starts and the downlink keep the flags. -/

namespace Sys2Proof.Machine

/-! ### The lanes and the line calls (R18 to R38, R59 to R63) -/

theorem servoSample_keepsFlags (p : PortId) (capture : Nat) (s : State) : FlagsKept s (servoSample p capture s) := by
  unfold servoSample
  dsimp only
  split
  · exact .refl s
  · split
    · exact .of_flags rfl
    · exact .setFlagIf (.setFlagIf (.of_flags rfl))

theorem laneLoss_keepsFlags (p : PortId) (s : State) : FlagsKept s (laneLoss p s) := by
  have hcount : FlagsKept s (s.countPort p fun c => { c with abandoned := bump c.abandoned }) := .of_flags rfl
  unfold laneLoss
  exact .setFlag (.then_flags hcount.ite rfl)

theorem reacquire_keepsFlags (p : PortId) (s : State) : FlagsKept s (reacquire p s) := .ite (.of_flags rfl)

theorem countWithheld_keepsFlags (p : PortId) (s : State) : FlagsKept s (countWithheld p s) :=
  .setFlag (.of_flags rfl)

theorem callNotice_keepsFlags (p : PortId) (d : DueCall) (s : State) : FlagsKept s (callNotice p d s) := by
  unfold callNotice
  dsimp only
  split
  · split
    · exact .of_flags rfl
    · exact (countWithheld_keepsFlags p _).after_flags rfl
  · exact .of_flags rfl

theorem deliverCall_keepsFlags (p : PortId) (s : State) : FlagsKept s (deliverCall p s) := by
  unfold deliverCall
  split
  · exact (callNotice_keepsFlags p _ _).after_flags rfl
  · exact .refl s

theorem countStray_keepsFlags (p : PortId) (s : State) : FlagsKept s (countStray p s) :=
  .setFlag (.of_flags rfl)

/-- R34: a stray is flagged, whatever its lane does next. -/
theorem strayThen_keepsFlags (p : PortId) (rx : Reception) (s : State) : FlagsKept s (setRx p rx (countStray p s)) :=
  (countStray_keepsFlags p s).then_flags rfl

theorem matchHeader_keepsFlags (p : PortId) (h : PacketHeader) (bytes : List Byte) (older : List CallEntry)
    (e : CallEntry) (newer : List CallEntry) (s : State) : FlagsKept s (matchHeader p h bytes older e newer s) := by
  unfold matchHeader
  dsimp only
  split
  · exact (servoSample_keepsFlags p _ _).after_flags rfl
  · exact .of_flags rfl

theorem headerDone_keepsFlags (p : PortId) (bytes : List Byte) (h : PacketHeader) (s : State) :
    FlagsKept s (headerDone p bytes h s) := by
  unfold headerDone
  dsimp only
  split
  · exact strayThen_keepsFlags p _ s
  · split
    · exact strayThen_keepsFlags p _ s
    · exact matchHeader_keepsFlags p h bytes _ _ _ s

theorem headerByte_keepsFlags (p : PortId) (bytes : List Byte) (b : Byte) (s : State) :
    FlagsKept s (headerByte p bytes b s) := by
  unfold headerByte
  split
  · exact headerDone_keepsFlags p _ _ s
  · exact .of_flags rfl

theorem tailCapture_keepsFlags (p : PortId) (k : Packet) (s : State) : FlagsKept s (tailCapture p k s) :=
  (servoSample_keepsFlags p _ _).after_flags rfl

theorem storeByte_keepsFlags (p : PortId) (k : Packet) (b : Byte) (errored : Bool) (s : State) :
    FlagsKept s (storeByte p k b errored s) := by
  have hput : ∀ u : State, FlagsKept u (u.onPort p fun q => q.onStore fun x => x.putByte k.received b) :=
    fun _ => .of_flags rfl
  unfold storeByte
  refine .trans ?_ (.ite (tailCapture_keepsFlags p k _))
  refine .trans ?_ (.ite (hput _))
  exact .of_flags rfl

theorem receive_keepsFlags (p : PortId) (sym : LaneSymbol) (s : State) : FlagsKept s (receive p sym s) := by
  unfold receive
  split
  case h_1 | h_3 => cases sym <;> exact .of_flags rfl
  case h_2 bytes _ =>
    cases sym with
    | idle => exact .refl s
    | data b => exact headerByte_keepsFlags p bytes b s
    | _ => exact strayThen_keepsFlags p _ s
  case h_4 k _ =>
    cases sym with
    | data b => exact storeByte_keepsFlags p k b false s
    | errored => exact storeByte_keepsFlags p k 0 true s
    | _ => exact .of_flags rfl

theorem upSymbol_keepsFlags (p : PortId) (sym : LaneSymbol) (s : State) : FlagsKept s (upSymbol p sym s) := by
  unfold upSymbol
  dsimp only
  split
  · refine .trans ?_ (reacquire_keepsFlags p _)
    exact (laneLoss_keepsFlags p _).after_flags rfl
  · exact (receive_keepsFlags p sym _).after_flags rfl

/-! ### The line start (R3 to R13, R78 to R92, R112) -/

/-- R30: a call a realign abandons counts as withheld. -/
theorem portNotice_keepsFlags (nt : LineNotice) (p : PortId) (s : State) : FlagsKept s (portNotice nt p s) := by
  have hclear : ∀ u : State, FlagsKept u (u.onPort p fun q => q.onServo Servo.clear) := fun _ => .of_flags rfl
  have hmark : ∀ u : State, FlagsKept u (u.onPort p fun q => { q with pendingCall := true }) := fun _ => .of_flags rfl
  exact ((countWithheld_keepsFlags p s).ite.trans (.ite (hclear _))).trans (.ite (hmark _))

theorem countLostCells_keepsFlags (p : PortId) (d : Descriptor) (s : State) : FlagsKept s (countLostCells p d s) := by
  unfold countLostCells
  refine .ite ?_
  split <;> exact .of_flags rfl

theorem sendLine_keepsFlags (p : PortId) (d : Descriptor) (s : State) : FlagsKept s (sendLine p d s) :=
  (countLostCells_keepsFlags p d _).after_flags rfl

theorem concealLine_keepsFlags (p : PortId) (s : State) : FlagsKept s (concealLine p s) :=
  .then_flags (.setFlag (.of_flags rfl)) rfl

theorem countDamaged_keepsFlags (p : PortId) (s : State) : FlagsKept s (countDamaged p s) :=
  .setFlag (.of_flags rfl)

theorem actOnDecision_keepsFlags (p : PortId) (t : TakeDecision) (s : State) : FlagsKept s (actOnDecision p t s) := by
  unfold actOnDecision
  cases t with
  | send d => exact sendLine_keepsFlags p d s
  | passDamaged d => exact (sendLine_keepsFlags p d s).trans (countDamaged_keepsFlags p _)
  | concealDamaged =>
    refine .trans ?_ (concealLine_keepsFlags p _)
    exact .after_flags (countDamaged_keepsFlags p _) rfl
  | late => exact (concealLine_keepsFlags p _).after_flags rfl
  | missing => exact concealLine_keepsFlags p s

theorem takeLine_keepsFlags (p : PortId) (wanted : LineCount) (s : State) : FlagsKept s (takeLine p wanted s) :=
  (actOnDecision_keepsFlags p _ _).after_flags rfl

theorem enginePort_keepsFlags (nt : LineNotice) (p : PortId) (s : State) : FlagsKept s (enginePort nt p s) := by
  unfold enginePort
  dsimp only
  split
  · exact (takeLine_keepsFlags p _ _).after_flags rfl
  · exact .of_flags rfl

theorem swapBanks_keepsFlags (capacity : Nat) (s : State) : FlagsKept s (swapBanks capacity s) := by
  unfold swapBanks
  refine .ite ?_
  split
  · exact .setFlag (.of_flags rfl)
  · exact .setFlag (.of_flags rfl)

theorem frameStart_keepsFlags (nt : FrameNotice) (s : State) : FlagsKept s (frameStart nt s) := by
  have hswap : ∀ capacity, FlagsKept s (swapBanks capacity { s with link := s.link.atFrameStart }) :=
    fun _ => (swapBanks_keepsFlags _ _).after_flags rfl
  exact .setFlagIf (.setFlagIf (.then_flags (hswap _) rfl))

theorem composePeriod_keepsFlags (nt : LineNotice) (s : State) : FlagsKept s (composePeriod nt s) := by
  unfold composePeriod
  split <;> exact .of_flags rfl

theorem countCause_keepsFlags (c : LineCause) (g : Grid) (s : State) : FlagsKept s (countCause c g s) := by
  cases c with
  | realign period lines => exact .setFlag (.refl s)
  | flywheel => exact .setFlagIf (.of_flags rfl)
  | _ => exact .refl s

theorem settleCalls_keepsFlags (c : LineCause) (s : State) : FlagsKept s (settleCalls c s) := by
  unfold settleCalls
  split
  · exact .of_flags rfl
  · exact .forPorts deliverCall_keepsFlags s

theorem deliverPassed_keepsFlags (p : PortId) (s : State) : FlagsKept s (deliverPassed p s) := by
  unfold deliverPassed
  split
  · exact .ite (deliverCall_keepsFlags p s)
  · exact .refl s

theorem setUpCall_keepsFlags (nt : LineNotice) (p : PortId) (s : State) : FlagsKept s (setUpCall nt p s) :=
  .of_flags rfl

theorem setUpCalls_keepsFlags (nt : LineNotice) (s : State) : FlagsKept s (setUpCalls nt s) :=
  .ite (.trans (.forPorts (setUpCall_keepsFlags nt) s) (.forPorts deliverPassed_keepsFlags _))

/-- R3, R4, R8: the parts of a line start in their order. -/
theorem lineStart_keepsFlags (c : LineCause) (s : State) : FlagsKept s (lineStart c s) := by
  have hgrid : ∀ u : State, FlagsKept u (countCause c u.grid (u.onGrid fun g => g.atLineStart u.timebase c)) :=
    fun _ => (countCause_keepsFlags c _ _).after_flags rfl
  refine .trans ?_ (setUpCalls_keepsFlags _ _)
  refine .trans ?_ (composePeriod_keepsFlags _ _)
  refine .trans ?_ (.forPorts (enginePort_keepsFlags _) _)
  refine .trans ?_ (.forPorts (portNotice_keepsFlags _) _)
  refine .trans ?_ (.ite (frameStart_keepsFlags _ _))
  exact (settleCalls_keepsFlags c s).trans (hgrid _)

theorem takeMarker_keepsFlags (m : Byte) (period lines : Word) (s : State) :
    FlagsKept s (takeMarker m period lines s) := by
  unfold takeMarker
  split
  · unfold frameMarker
    split
    · split <;> exact lineStart_keepsFlags _ s
    · exact .setFlag (.refl s)
  · exact .ite (lineStart_keepsFlags .fitted s)

/-! ### The downlink's cells leave the flags as they were (R94 to R100, R148, R149) -/

theorem portCell_flags (p : PortId) (s : State) : (portCell p s).1.flagUnit.flags = s.flagUnit.flags := by
  unfold portCell
  split
  · split <;> rfl
  · rfl
  · rfl

theorem returnCell_flags (s : State) : (returnCell s).1.flagUnit.flags = s.flagUnit.flags := by
  unfold returnCell
  split
  · rfl
  · split <;> rfl

theorem handSlotCell_flags (index : Nat) (src : Source) (s : State) :
    (handSlotCell index src s).flagUnit.flags = s.flagUnit.flags := by
  cases src with
  | port p => exact portCell_flags p s
  | ret => exact returnCell_flags s
  | _ => rfl

theorem handNextCell_flags (s : State) : (handNextCell s).flagUnit.flags = s.flagUnit.flags := by
  unfold handNextCell
  split
  · rfl
  · rfl
  · split
    · split
      · exact handSlotCell_flags _ _ s
      · rfl
    · rfl

theorem cellCarried_flags (r : ReturnRecord) (s : State) : (cellCarried r s).flagUnit.flags = s.flagUnit.flags := by
  unfold cellCarried
  dsimp only
  split
  · cases r.source <;> rfl
  · rfl

end Sys2Proof.Machine
end

section
/-! The requests other than CLEAR-FLAGS keep the flags, and so does every command O28 speaks of. -/

namespace Sys2Proof.Machine

/-! ### The requests (R155) -/

/-- R166: the counters of a group go to 0, and the flags stay. -/
theorem zeroGroup_flags (u : FlagUnit) (code : Nat) : (zeroGroup u code).flags = u.flags := by
  unfold zeroGroup
  split
  · rfl
  · rfl
  · split <;> rfl

theorem doReadCounters_flags (group action : Byte) (s : State) :
    (doReadCounters group action s).state.flagUnit.flags = s.flagUnit.flags := by
  unfold doReadCounters
  split
  · split
    · rfl
    · dsimp only [done]
      split
      · exact zeroGroup_flags _ _
      · rfl
  · rfl

/-- R159: a RESTART refused sets RESTART_REFUSED. -/
theorem doRestart_keepsFlags (s : State) : FlagsKept s (doRestart s).state := by
  unfold doRestart
  split
  · exact .setFlag (.refl s)
  · exact .of_flags rfl

theorem applySettings_flags (p : PortId) (new : Settings) (s : State) :
    (applySettings p new s).flagUnit.flags = s.flagUnit.flags := by
  unfold applySettings
  dsimp only
  split <;> rfl

theorem doSetPort_flags (port : Byte) (f : PortFields) (s : State) :
    (doSetPort port f s).state.flagUnit.flags = s.flagUnit.flags := by
  unfold doSetPort
  split
  · split
    · rfl
    · exact applySettings_flags _ _ s
  · rfl
  · rfl

/-- R126: what a FORWARD puts in the queue may go to the bus at once. -/
theorem doForward_keepsFlags (f : ForwardFields) (s : State) : FlagsKept s (doForward f s).state := by
  unfold doForward
  split
  · exact .refl s
  · split
    · exact .refl s
    · exact (settleBus_keepsFlags _).after_flags rfl

/-- Of the requests CLEAR-FLAGS alone clears a flag (R164). -/
theorem perform_keepsFlags {q : Request} (hq : ∀ ns, q ≠ .clearFlags ns) (s : State) :
    FlagsKept s (perform q s).state := by
  cases q with
  | clearFlags ns => exact absurd rfl (hq ns)
  | restart => exact doRestart_keepsFlags s
  | forward f => exact doForward_keepsFlags f s
  | readCounters g a => exact .of_flags (doReadCounters_flags g a s)
  | setPort p f => exact .of_flags (doSetPort_flags p f s)
  | identify | readStatus | setAttnMask | readGrid | readWeave | readLink => exact .of_flags rfl
  | readPort | setLink | setGate | setBus | ancMode | mailSend | mailFetch =>
    dsimp only [perform, doReadPort, doSetLink, doSetGate, doSetBus, doAncMode, doMailSend, doMailFetch]
    split <;> exact .of_flags rfl
  | setTiming | readSlots | commitSlots =>
    dsimp only [perform, doSetTiming, doReadSlots, doCommitSlots]
    split
    · exact .of_flags rfl
    · split <;> exact .of_flags rfl
  | setTrim | fetchReplies =>
    dsimp only [perform, doSetTrim, doFetchReplies]
    split
    · split <;> exact .of_flags rfl
    · exact .refl s
  | stageSlots first newLen entries =>
    dsimp only [perform, doStageSlots]
    split
    · exact .refl s
    · split
      · split <;> exact .of_flags rfl
      · exact .refl s
  | ancLoad offset bytes =>
    dsimp only [perform, doAncLoad]
    split
    · split <;> exact .of_flags rfl
    · split <;> exact .of_flags rfl

/-! ### The Management Port (R153 to R155) -/

/-- R155: the kinds that have a parser are those of the catalogue. -/
theorem bodyParser?_isSome (kind : Byte) : (bodyParser? kind).isSome = catalogueKinds.contains kind.toNat := by
  revert kind
  decide

theorem recordComplete_keepsFlags {r : ReqRecord} (hr : ∀ ns, parseRecord r ≠ .ok (.clearFlags ns)) (s : State) :
    FlagsKept s (recordComplete r s) := by
  rcases recordComplete_cases r s with ⟨-, h⟩ | ⟨-, -, h⟩ | ⟨-, -, h⟩ <;> rw [h]
  · rcases dispatch_cases r s with ⟨o, -, h⟩ | ⟨q, hq, h⟩ <;> rw [h]
    · exact .of_flags rfl
    · have hne : ∀ ns, q ≠ .clearFlags ns := by
        rintro ns rfl
        exact hr ns hq
      exact (perform_keepsFlags hne s).then_flags rfl
  · exact .of_flags rfl
  · exact .setFlag (.refl s)

theorem parseRecord_of_not_catalogued {r : ReqRecord} (h : catalogueKinds.contains r.kind.toNat = false) (q : Request) :
    parseRecord r ≠ .ok q := by
  have hk : bodyParser? r.kind = none := by rw [← Option.not_isSome_iff_eq_none, bodyParser?_isSome, h]; decide
  unfold parseRecord
  split
  · simp
  · simp [hk]

/-! ### The commands: the requests -/

theorem whenRunning_keepsFlags {f : State → State} {s t : State} (h : whenRunning s f = .next t)
    (hf : ∀ s, FlagsKept s (f s)) : FlagsKept s t := by
  rcases whenRunning_cases h with ⟨-, rfl⟩ | ⟨-, rfl⟩
  · exact .refl _
  · exact hf s

/-- What Laws/PerInstr.lean says of each constructor, of every command at once. -/
theorem requestRow (i : Instr) : Laws.RequestRow.Statement i := by
  intro q h
  cases i <;> cases h <;> exact ⟨rfl, rfl⟩

/-- R154, R155: the row of a well-formed request brings that request and no other. -/
theorem request_keepsFlags {q : Request} (hwf : q.wellFormed = true) (hq : ∀ ns, q ≠ .clearFlags ns) {s t : State}
    (h : requestArrives q s = .next t) : FlagsKept s t := by
  refine whenRunning_keepsFlags h (recordComplete_keepsFlags fun ns hparse => hq ns ?_)
  rw [parseRecord_record hwf] at hparse
  exact Except.ok.inj hparse

theorem unknownKind_keepsFlags {kind : Byte} {body : List Byte} (hwf : (Instr.unknownKind kind body).wellFormed = true)
    {s t : State} (h : execUnknownKind kind body s = .next t) : FlagsKept s t := by
  have hkind : catalogueKinds.contains kind.toNat = false := by
    simp only [Instr.wellFormed, Bool.and_eq_true, Bool.not_eq_true'] at hwf
    exact hwf.1
  exact whenRunning_keepsFlags h (recordComplete_keepsFlags fun _ => parseRecord_of_not_catalogued hkind _)

/-! ### The commands: the grid's and the lanes' events -/

theorem predictionLineStart_keepsFlags {s t : State} (h : execPredictionLineStart s = .next t) : FlagsKept s t := by
  unfold execPredictionLineStart at h
  exact whenRunning_keepsFlags h fun u => .ite (lineStart_keepsFlags .predicted u)

theorem fitWindowExpiry_keepsFlags {s t : State} (h : execFitWindowExpiry s = .next t) : FlagsKept s t := by
  unfold execFitWindowExpiry at h
  exact whenRunning_keepsFlags h fun u => .ite (lineStart_keepsFlags .flywheel u)

theorem callDue_keepsFlags {p : PortId} {s t : State} (h : execCallDue p s = .next t) : FlagsKept s t := by
  unfold execCallDue at h
  exact whenRunning_keepsFlags h fun u => .ite (deliverCall_keepsFlags p u)

theorem marker_keepsFlags {m : Byte} {period lines : Word} {s t : State} (h : execMarker m period lines s = .next t) :
    FlagsKept s t := by
  unfold execMarker at h
  exact whenRunning_keepsFlags h fun u => (takeMarker_keepsFlags m period lines (goodBlock u)).after_flags rfl

theorem laneSignalPresent_keepsFlags {p : PortId} {s t : State} (h : execLaneSignalPresent p s = .next t) :
    FlagsKept s t := by
  unfold execLaneSignalPresent at h
  exact (whenRunning_keepsFlags h fun _ => .ite (.of_flags rfl)).after_flags rfl

theorem laneSignalLost_keepsFlags {p : PortId} {s t : State} (h : execLaneSignalLost p s = .next t) :
    FlagsKept s t := by
  unfold execLaneSignalLost at h
  refine (whenRunning_keepsFlags h fun u => ?_).after_flags rfl
  split
  · exact .refl u
  · exact .of_flags rfl
  · exact laneLoss_keepsFlags p u

theorem laneSymbol_keepsFlags {p : PortId} {sym : LaneSymbol} {s t : State} (h : execLaneSymbol p sym s = .next t) :
    FlagsKept s t := by
  unfold execLaneSymbol at h
  refine whenRunning_keepsFlags h fun u => ?_
  split
  · exact .refl u
  · exact .of_flags rfl
  · exact upSymbol_keepsFlags p sym u

/-! ### The commands: the link's events -/

theorem cellHandover_keepsFlags {s t : State} (h : execCellHandover s = .next t) : FlagsKept s t := by
  unfold execCellHandover at h
  exact whenRunning_keepsFlags h fun u => .ite (.of_flags (handNextCell_flags u))

theorem returnCellCarried_keepsFlags {s t : State} (h : execReturnCellCarried s = .next t) : FlagsKept s t := by
  unfold execReturnCellCarried at h
  refine whenRunning_keepsFlags h fun u => .ite ?_
  dsimp only
  split
  · exact .of_flags (cellCarried_flags _ _)
  · exact .of_flags rfl

theorem offer_keepsFlags {cls : Byte} {s t : State} (h : execOffer cls s = .next t) : FlagsKept s t := by
  unfold execOffer at h
  refine whenRunning_keepsFlags h fun u => ?_
  split
  · exact .of_flags (takeOffer_flags _ _)
  · exact .of_flags rfl

theorem start_keepsFlags {cls : Byte} {s t : State} (h : execStart cls s = .next t) : FlagsKept s t := by
  unfold execStart at h
  refine whenRunning_keepsFlags h fun u => ?_
  split <;> exact .of_flags rfl

theorem health_keepsFlags {errors : Word} {s t : State} (h : execHealth errors s = .next t) : FlagsKept s t := by
  unfold execHealth at h
  exact whenRunning_keepsFlags h fun u => (takeHealth_keepsFlags errors.toNat (goodBlock u)).after_flags rfl

theorem segment_keepsFlags {marks len : Byte} {payload : List Byte} {s t : State}
    (h : execSegment marks len payload s = .next t) : FlagsKept s t := by
  unfold execSegment at h
  exact whenRunning_keepsFlags h fun u => (takeSegment_keepsFlags marks len payload (goodBlock u)).after_flags rfl

theorem silenceExpiry_keepsFlags {s t : State} (h : execSilenceExpiry s = .next t) : FlagsKept s t := by
  unfold execSilenceExpiry at h
  exact whenRunning_keepsFlags h fun u => .ite (linkLoss_keepsFlags u)

theorem trainingExpiry_keepsFlags {s t : State} (h : execTrainingExpiry s = .next t) : FlagsKept s t := by
  unfold execTrainingExpiry at h
  exact whenRunning_keepsFlags h fun _ => .ite (.of_flags rfl)

/-! ### The commands: the bus's events and the gap expiry -/

theorem boardAnswer_keepsFlags {a : BoardAnswer} {s t : State} (h : execBoardAnswer a s = .next t) : FlagsKept s t := by
  unfold execBoardAnswer at h
  exact whenRunning_keepsFlags h (withBusTxn_keepsFlags fun t u => boardAnswered_keepsFlags t a u)

theorem readWord_keepsFlags {w : Word} {s t : State} (h : execReadWord w s = .next t) : FlagsKept s t := by
  unfold execReadWord at h
  exact whenRunning_keepsFlags h (withBusTxn_keepsFlags fun t u => wordRead_keepsFlags t w u)

theorem answerTimeout_keepsFlags {s t : State} (h : execAnswerTimeout s = .next t) : FlagsKept s t := by
  unfold execAnswerTimeout at h
  exact whenRunning_keepsFlags h (withBusTxn_keepsFlags fun t u => .ite (waitExpired_keepsFlags t u))

theorem gapExpiry_keepsFlags {s t : State} (h : execGapExpiry s = .next t) : FlagsKept s t := by
  unfold execGapExpiry at h
  exact whenRunning_keepsFlags h fun _ => .ite (.setFlag (.of_flags rfl))

/-! ### Every command -/

/-- Every well-formed command but a power-on, CLEAR-FLAGS, a byte on MRX and the end of a reply keeps the flags. -/
theorem exec_keepsFlags {i : Instr} {s t : State} (hwf : i.wellFormed = true) (h : exec i s = .next t)
    (hpower : ∀ r b, i ≠ .powerOn r b) (hclear : ∀ ns, i ≠ .clearFlags ns) (hbyte : ∀ b, i ≠ .mgmtByte b)
    (hend : i ≠ .replyEnd) : FlagsKept s t := by
  cases hq : i.request? with
  | some q =>
    obtain ⟨hcommand, hqwf⟩ := requestRow i q hq
    have hqclear : ∀ ns, q ≠ .clearFlags ns := by
      rintro ns rfl
      exact hclear ns hcommand.symm
    rw [request_arrives hq] at h
    exact request_keepsFlags (hqwf.trans hwf) hqclear h
  | none =>
    cases i with
    | powerOn r b => exact absurd rfl (hpower r b)
    | mgmtByte b => exact absurd rfl (hbyte b)
    | replyEnd => exact absurd rfl hend
    | predictionLineStart => exact predictionLineStart_keepsFlags h
    | fitWindowExpiry => exact fitWindowExpiry_keepsFlags h
    | callDue p => exact callDue_keepsFlags h
    | marker m period lines => exact marker_keepsFlags h
    | laneSignalPresent p => exact laneSignalPresent_keepsFlags h
    | laneSignalLost p => exact laneSignalLost_keepsFlags h
    | laneSymbol p sym => exact laneSymbol_keepsFlags h
    | cellHandover => exact cellHandover_keepsFlags h
    | returnCellCarried => exact returnCellCarried_keepsFlags h
    | failedBlock => exact whenRunning_keepsFlags h takeFailedBlock_keepsFlags
    | offer cls => exact offer_keepsFlags h
    | start cls => exact start_keepsFlags h
    | health errors => exact health_keepsFlags h
    | uplinkIdle => exact whenRunning_keepsFlags h fun _ => .of_flags rfl
    | segment marks len payload => exact segment_keepsFlags h
    | silenceExpiry => exact silenceExpiry_keepsFlags h
    | trainingExpiry => exact trainingExpiry_keepsFlags h
    | wordSent => exact whenRunning_keepsFlags h (withBusTxn_keepsFlags wordEnded_keepsFlags)
    | boardAnswer a => exact boardAnswer_keepsFlags h
    | readWord w => exact readWord_keepsFlags h
    | answerTimeout => exact answerTimeout_keepsFlags h
    | gapExpiry => exact gapExpiry_keepsFlags h
    | unknownKind kind body => exact unknownKind_keepsFlags hwf h
    | _ => cases hq

/-- Settles O28: every command it speaks of keeps the flags, as `exec_keepsFlags` says command by command. -/
theorem flagsLatch : Obligations.FlagsLatch := by
  unfold Obligations.FlagsLatch
  intro i s t hwf h hpower hclear hbyte hend
  exact (exec_keepsFlags hwf h hpower hclear hbyte hend).hasFlag

end Sys2Proof.Machine
end

section
/-! PROOF of O1: a step on a queue that holds a command. -/

namespace Sys2Proof.Machine

/-- Settles O1: a step on a queue with a command in front is that command's effect, by the definition of `step`. -/
theorem stepRunsFrontCommand : Obligations.StepRunsFrontCommand := by
  unfold Obligations.StepRunsFrontCommand
  intro c rest s
  rfl

end Sys2Proof.Machine
end

section
/-! PROOF of O20: an event of a lane stays within its port. The layers: `LaneKeeps p` is a preorder; the three ways a lane's
event touches the state (its port, its port's counters, a flag of its port) stay within it; one lemma for each operation of the
lane, by composition; the three events. -/

namespace Sys2Proof.Machine

/-! ### The preorder -/

namespace LaneKeeps

theorem refl (p : PortId) (s : State) : LaneKeeps p s s := by
  constructor <;> intros <;> rfl

theorem trans {p : PortId} {s t u : State} (h : LaneKeeps p s t) (h' : LaneKeeps p t u) : LaneKeeps p s u where
  resetLow := h'.resetLow.trans h.resetLow
  timebase := h'.timebase.trans h.timebase
  grid := h'.grid.trans h.grid
  table := h'.table.trans h.table
  engine := h'.engine.trans h.engine
  link := h'.link.trans h.link
  bus := h'.bus.trans h.bus
  anc := h'.anc.trans h.anc
  mail := h'.mail.trans h.mail
  mgmt := h'.mgmt.trans h.mgmt
  pending := h'.pending.trans h.pending
  masks := h'.masks.trans h.masks
  linkCounters := h'.linkCounters.trans h.linkCounters
  busCounters := h'.busCounters.trans h.busCounters
  ports r hr := (h'.ports r hr).trans (h.ports r hr)
  counters r hr := (h'.counters r hr).trans (h.counters r hr)
  settings := h'.settings.trans h.settings
  withhold := h'.withhold.trans h.withhold
  pendingCall := h'.pendingCall.trans h.pendingCall
  flags f hf := (h'.flags f hf).trans (h.flags f hf)

/-- What keeps the rest under a condition, and else does nothing. -/
theorem ite {c : Prop} [Decidable c] {p : PortId} {s t : State} (h : LaneKeeps p s t) :
    LaneKeeps p s (if c then t else s) := by
  split
  · exact h
  · exact .refl p s

/-- A change of the lane's own port that leaves its settings, withhold state and pending-call mark. -/
theorem onPort {p : PortId} {s : State} {f : Port → Port} (hsettings : (f (s.port p)).settings = (s.port p).settings)
    (hwithhold : (f (s.port p)).withhold = (s.port p).withhold)
    (hpending : (f (s.port p)).pendingCall = (s.port p).pendingCall) : LaneKeeps p s (s.onPort p f) :=
  { LaneKeeps.refl p s with
    ports := fun r hr => State.port_onPort_ne s p r f hr
    counters := fun _ _ => rfl
    settings := by rw [State.port_onPort_same, hsettings]
    withhold := by rw [State.port_onPort_same, hwithhold]
    pendingCall := by rw [State.port_onPort_same, hpending]
    flags := fun _ _ => rfl }

theorem onLane (p : PortId) (f : Lane → Lane) (s : State) : LaneKeeps p s (s.onPort p fun q => q.onLane f) :=
  .onPort rfl rfl rfl

theorem onStore (p : PortId) (f : Store → Store) (s : State) : LaneKeeps p s (s.onPort p fun q => q.onStore f) :=
  .onPort rfl rfl rfl

/-- The counters of the lane's own port (R165). -/
theorem countPort (p : PortId) (f : PortCounters → PortCounters) (s : State) : LaneKeeps p s (s.countPort p f) :=
  { LaneKeeps.refl p s with
    ports := fun _ _ => rfl
    counters := fun r hr => Quad.get_set_ne s.flagUnit.ports p r _ hr
    flags := fun _ _ => rfl }

/-- A flag of the lane's own port (R160). -/
theorem setFlag (p : PortId) (g : PortFlag) (s : State) : LaneKeeps p s (s.setFlag (.port p g)) :=
  { LaneKeeps.refl p s with
    ports := fun _ _ => rfl
    counters := fun _ _ => rfl
    flags := fun f hf => by rw [State.hasFlag_setFlag_iff, decide_eq_false (hf g).symm, Bool.or_false] }

theorem setFlagIf (p : PortId) (c : Bool) (g : PortFlag) (s : State) : LaneKeeps p s (s.setFlagIf c (.port p g)) := by
  cases c with
  | false => exact .refl p s
  | true => exact .setFlag p g s

end LaneKeeps

/-! ### The lane's operations (R18 to R21, R33 to R37, R59 to R63) -/

theorem servoSample_keepsLane (p : PortId) (capture : Nat) (s : State) : LaneKeeps p s (servoSample p capture s) := by
  unfold servoSample
  dsimp only
  split
  · exact .refl p s
  · split
    · exact .onPort rfl rfl rfl
    · exact (LaneKeeps.onPort rfl rfl rfl).trans ((LaneKeeps.setFlagIf p _ _ _).trans (.setFlagIf p _ _ _))

theorem laneLoss_keepsLane (p : PortId) (s : State) : LaneKeeps p s (laneLoss p s) := by
  unfold laneLoss
  have hloss := fun u : State => LaneKeeps.onPort (p := p) (s := u) (f := Port.afterLoss) rfl rfl rfl
  exact ((LaneKeeps.countPort p _ s).ite.trans (hloss _)).trans (.setFlag p _ _)

theorem reacquire_keepsLane (p : PortId) (s : State) : LaneKeeps p s (reacquire p s) := (LaneKeeps.onLane p _ s).ite

theorem setRx_keepsLane (p : PortId) (rx : Reception) (s : State) : LaneKeeps p s (setRx p rx s) := .onLane p _ s

theorem beginPacket_keepsLane (p : PortId) (s : State) : LaneKeeps p s (beginPacket p s) := setRx_keepsLane p _ s

/-- R34: a stray is counted and flagged, whatever its lane does next. -/
theorem strayThen_keepsLane (p : PortId) (rx : Reception) (s : State) :
    LaneKeeps p s (setRx p rx (countStray p s)) := by
  unfold countStray
  exact ((LaneKeeps.countPort p _ s).trans (.setFlag p _ _)).trans (setRx_keepsLane p rx _)

theorem matchHeader_keepsLane (p : PortId) (h : PacketHeader) (bytes : List Byte) (older : List CallEntry)
    (e : CallEntry) (newer : List CallEntry) (s : State) :
    LaneKeeps p s (matchHeader p h bytes older e newer s) := by
  unfold matchHeader
  dsimp only
  split
  · exact ((LaneKeeps.countPort p _ s).trans (.onPort rfl rfl rfl)).trans (servoSample_keepsLane p _ _)
  · exact (LaneKeeps.countPort p _ s).trans (.onPort rfl rfl rfl)

theorem headerDone_keepsLane (p : PortId) (bytes : List Byte) (h : PacketHeader) (s : State) :
    LaneKeeps p s (headerDone p bytes h s) := by
  unfold headerDone
  dsimp only
  split
  · exact strayThen_keepsLane p _ s
  · split
    · exact strayThen_keepsLane p _ s
    · exact matchHeader_keepsLane p h bytes _ _ _ s

theorem headerByte_keepsLane (p : PortId) (bytes : List Byte) (b : Byte) (s : State) :
    LaneKeeps p s (headerByte p bytes b s) := by
  unfold headerByte
  split
  · exact headerDone_keepsLane p _ _ s
  · exact setRx_keepsLane p _ s

theorem tailCapture_keepsLane (p : PortId) (k : Packet) (s : State) : LaneKeeps p s (tailCapture p k s) :=
  (LaneKeeps.onStore p _ s).trans (servoSample_keepsLane p _ _)

theorem storeByte_keepsLane (p : PortId) (k : Packet) (b : Byte) (errored : Bool) (s : State) :
    LaneKeeps p s (storeByte p k b errored s) :=
  ((setRx_keepsLane p _ s).trans (LaneKeeps.onStore p _ _).ite).trans (tailCapture_keepsLane p k _).ite

/-- R37: a packet ends, whatever its lane does next. -/
theorem endPacketThen_keepsLane (p : PortId) (k : Packet) (rx : Reception) (s : State) :
    LaneKeeps p s (setRx p rx (endPacket p k s)) :=
  (LaneKeeps.onStore p _ s).trans (setRx_keepsLane p rx _)

theorem receive_keepsLane (p : PortId) (sym : LaneSymbol) (s : State) : LaneKeeps p s (receive p sym s) := by
  unfold receive
  split
  case h_1 =>
    cases sym with
    | startDelim => exact beginPacket_keepsLane p s
    | _ => exact .refl p s
  case h_2 bytes _ =>
    cases sym with
    | idle => exact .refl p s
    | data b => exact headerByte_keepsLane p bytes b s
    | _ => exact strayThen_keepsLane p _ s
  case h_3 =>
    cases sym with
    | startDelim => exact beginPacket_keepsLane p s
    | endDelim => exact setRx_keepsLane p _ s
    | _ => exact .refl p s
  case h_4 k _ =>
    cases sym with
    | idle => exact .refl p s
    | data b => exact storeByte_keepsLane p k b false s
    | errored => exact storeByte_keepsLane p k 0 true s
    | _ => exact endPacketThen_keepsLane p k _ s

theorem upSymbol_keepsLane (p : PortId) (sym : LaneSymbol) (s : State) : LaneKeeps p s (upSymbol p sym s) := by
  unfold upSymbol
  dsimp only
  split
  · exact (LaneKeeps.onLane p _ s).trans ((laneLoss_keepsLane p _).trans (reacquire_keepsLane p _))
  · exact (LaneKeeps.onLane p _ s).trans (receive_keepsLane p sym _)

/-! ### The events of a lane -/

theorem whenRunning_keepsLane {p : PortId} {f : State → State} {s t : State} (h : whenRunning s f = .next t)
    (hf : ∀ u, LaneKeeps p u (f u)) : LaneKeeps p s t := by
  obtain ⟨-, rfl⟩ | ⟨-, rfl⟩ := whenRunning_cases h
  · exact .refl p _
  · exact hf s

theorem laneSignalPresent_keepsLane {p : PortId} {s t : State} (h : execLaneSignalPresent p s = .next t) :
    LaneKeeps p s t := by
  unfold execLaneSignalPresent at h
  exact (LaneKeeps.onLane p _ s).trans (whenRunning_keepsLane h fun u => (LaneKeeps.onLane p _ u).ite)

theorem laneSignalLost_keepsLane {p : PortId} {s t : State} (h : execLaneSignalLost p s = .next t) :
    LaneKeeps p s t := by
  unfold execLaneSignalLost at h
  refine (LaneKeeps.onLane p _ s).trans (whenRunning_keepsLane h fun u => ?_)
  split
  · exact .refl p u
  · exact .onLane p _ u
  · exact laneLoss_keepsLane p u

theorem laneSymbol_keepsLane {p : PortId} {sym : LaneSymbol} {s t : State} (h : execLaneSymbol p sym s = .next t) :
    LaneKeeps p s t := by
  unfold execLaneSymbol at h
  refine whenRunning_keepsLane h fun u => ?_
  split
  · exact .refl p u
  · exact .onLane p _ u
  · exact upSymbol_keepsLane p sym u

/-- Settles O20: each of the three events keeps the rest, whatever the state. -/
theorem laneEventsKeepTheRest : Obligations.LaneEventsKeepTheRest := by
  unfold Obligations.LaneEventsKeepTheRest
  rintro p i s t (rfl | rfl | ⟨sym, rfl⟩) h
  · exact laneSignalPresent_keepsLane h
  · exact laneSignalLost_keepsLane h
  · exact laneSymbol_keepsLane h

end Sys2Proof.Machine
end
